-- ==== Sys2Proof/Word.lean ====
section
/-! DEFINITION. Bits and vectors of bits (00_scope.md R9). -/

namespace Sys2Proof

/-- `bits(n)` of 00_scope.md R9: an ordered sequence of bits (10_state.md R23). The head of the list is index 0, the
least significant bit; the length of the list is the width `n`. The widths `IR_LEN` and `DR_LEN` are open parameters of
an instance (R6), so a vector carries its own width and `Machine.State.wf` says that the widths agree (log 3). -/
abbrev Bits := List Bool

/-- The literal of width `n` whose unsigned value is `v` modulo `2 ^ n`: `Bits.lit 2 0b10` has index 1 set (R9). -/
def Bits.lit : Nat → Nat → Bits
  | 0, _ => []
  | n + 1, v => (v % 2 == 1) :: Bits.lit n (v / 2)

end Sys2Proof
end

