-- ==== Sys2Proof/Config.lean ====
section
/-! DEFINITION. The parameters of an instance (00_scope.md R5 to R7). Nothing here changes while the block runs. -/

namespace Sys2Proof

/-- The open parameters of 00_scope.md R6: the two register lengths, "fixed for the life of an instance" (R7, decisions
D1 and D2). The capture values are no parameter but inputs of every edge (decision D4). -/
structure Config where
  /-- `IR_LEN`, the number of bits of each stage of the Instruction Register. -/
  irLen : Nat
  /-- `DR_LEN`, the number of bits of each stage of the Data Register. -/
  drLen : Nat
  deriving DecidableEq, Repr

/-- The reference instance REF of 00_scope.md R6 (decision D30): the spec's own choice, no claim about the chip.
DESIGN CHOICE, log 3: `Machine.State.reset` is a state of this instance. -/
def Config.ref : Config := { irLen := 2, drLen := 1 }

/-- The value REF's capture source presents to the IR, `0b01` (R6, decision D30). -/
def Config.refIrCapture : Bits := Bits.lit 2 0b01

/-- The value REF's capture source presents to the DR, `0b0` (R6, decision D30). -/
def Config.refDrCapture : Bits := Bits.lit 1 0b0

/-- `TDO_RESET` of 00_scope.md R6, "decided: 0" (decision D6; log 6). -/
def Config.tdoReset : Bool := false

end Sys2Proof
end

