-- ==== Sys2Proof/Syntax.lean ====
section
/-! DEFINITION. The names of the machine: the 16 States, the 32 step operations (one constructor per row of
spec/opcode_table.json) and the syntax of a program, which is a sequence of the environment's moves (00_scope.md R16). -/

namespace Sys2Proof

/-- The 16 States of 00_scope.md R14, in the order of its index column. An enumeration: the document gives no binary
encoding of them (decision D10). -/
inductive TapState where
  | testLogicReset
  | runTestIdle
  | selectDrScan
  | captureDr
  | shiftDr
  | exit1Dr
  | pauseDr
  | exit2Dr
  | updateDr
  | selectIrScan
  | captureIr
  | shiftIr
  | exit1Ir
  | pauseIr
  | exit2Ir
  | updateIr
  deriving DecidableEq, Repr

/-- The two paths of 00_scope.md R14. -/
inductive Path where
  | dr
  | ir
  deriving DecidableEq, Repr

/-- The 32 step operations of 30_encoding.md R76: one edge taken in a given current State with a given `tms`. `sdr0` is
`SDR/0` of the text and `SDR_0` of the table. The operand is `tdi`, the bit on the serial input at that edge (R73, R74);
only the four shift operations use it (R78). -/
inductive Instr where
  /-- R104, action R150: TestLogicReset with `tms = 1`. -/
  | tlr1 (tdi : Bool)
  /-- R105, action R150: TestLogicReset with `tms = 0`. -/
  | tlr0 (tdi : Bool)
  /-- R106, action R151: RunTestIdle with `tms = 1`. -/
  | rti1 (tdi : Bool)
  /-- R107, action R151: RunTestIdle with `tms = 0`. -/
  | rti0 (tdi : Bool)
  /-- R108, action R152: SelectDrScan with `tms = 1`. -/
  | sds1 (tdi : Bool)
  /-- R109, action R152: SelectDrScan with `tms = 0`. -/
  | sds0 (tdi : Bool)
  /-- R110, action R153: CaptureDr with `tms = 1`. -/
  | cdr1 (tdi : Bool)
  /-- R111, action R153: CaptureDr with `tms = 0`. -/
  | cdr0 (tdi : Bool)
  /-- R112, action R154: ShiftDr with `tms = 1`. -/
  | sdr1 (tdi : Bool)
  /-- R113, action R154: ShiftDr with `tms = 0`. -/
  | sdr0 (tdi : Bool)
  /-- R114, action R155: Exit1Dr with `tms = 1`. -/
  | e1d1 (tdi : Bool)
  /-- R115, action R155: Exit1Dr with `tms = 0`. -/
  | e1d0 (tdi : Bool)
  /-- R116, action R156: PauseDr with `tms = 1`. -/
  | pdr1 (tdi : Bool)
  /-- R117, action R156: PauseDr with `tms = 0`. -/
  | pdr0 (tdi : Bool)
  /-- R118, action R157: Exit2Dr with `tms = 1`. -/
  | e2d1 (tdi : Bool)
  /-- R119, action R157: Exit2Dr with `tms = 0`. -/
  | e2d0 (tdi : Bool)
  /-- R120, action R158: UpdateDr with `tms = 1`. -/
  | udr1 (tdi : Bool)
  /-- R121, action R158: UpdateDr with `tms = 0`. -/
  | udr0 (tdi : Bool)
  /-- R122, action R159: SelectIrScan with `tms = 1`. -/
  | sis1 (tdi : Bool)
  /-- R123, action R159: SelectIrScan with `tms = 0`. -/
  | sis0 (tdi : Bool)
  /-- R124, action R160: CaptureIr with `tms = 1`. -/
  | cir1 (tdi : Bool)
  /-- R125, action R160: CaptureIr with `tms = 0`. -/
  | cir0 (tdi : Bool)
  /-- R126, action R161: ShiftIr with `tms = 1`. -/
  | sir1 (tdi : Bool)
  /-- R127, action R161: ShiftIr with `tms = 0`. -/
  | sir0 (tdi : Bool)
  /-- R128, action R162: Exit1Ir with `tms = 1`. -/
  | e1i1 (tdi : Bool)
  /-- R129, action R162: Exit1Ir with `tms = 0`. -/
  | e1i0 (tdi : Bool)
  /-- R130, action R163: PauseIr with `tms = 1`. -/
  | pir1 (tdi : Bool)
  /-- R131, action R163: PauseIr with `tms = 0`. -/
  | pir0 (tdi : Bool)
  /-- R132, action R164: Exit2Ir with `tms = 1`. -/
  | e2i1 (tdi : Bool)
  /-- R133, action R164: Exit2Ir with `tms = 0`. -/
  | e2i0 (tdi : Bool)
  /-- R134, action R165: UpdateIr with `tms = 1`. -/
  | uir1 (tdi : Bool)
  /-- R135, action R165: UpdateIr with `tms = 0`. -/
  | uir0 (tdi : Bool)
  deriving DecidableEq, Repr

/-- The levels of the four inputs an active edge reads (10_state.md R36, 00_scope.md R12). The capture values belong to
the edge: they "may differ from edge to edge" (R6, R171). -/
structure Inputs where
  /-- selects the successor State -/
  tms : Bool
  /-- the serial input -/
  tdi : Bool
  /-- the capture source of the IR, `IR_LEN` bits -/
  irCapIn : Bits
  /-- the capture source of the DR, `DR_LEN` bits -/
  drCapIn : Bits
  deriving DecidableEq, Repr

/-- The moves 60_exceptions.md R213 gives the environment: an active clock edge with its inputs, and the two events of
the reset input (70_reset_and_hazards.md R232, R234). Observation has no effect and is no event. -/
inductive Event where
  | edge (p : Inputs)
  | assertReset
  | deassertReset
  deriving DecidableEq, Repr

end Sys2Proof
end

