-- ==== Sys2Proof/WellFormed.lean ====
section
/-! DEFINITION. What is well formed: the parameters of an instance, the widths of the inputs of an edge, the domain of
the software call's arguments. An `Instr` has no ill-formed term: its operand has type bit, as 30_encoding.md R77 and
93_implementation_defined.md I7 ask ("refuse: inputs have type bit, the case cannot be expressed"). -/

namespace Sys2Proof

/-- 00_scope.md R6: `IR_LEN` and `DR_LEN` are integers, at least 1. -/
def Config.wf (c : Config) : Bool := decide (1 ≤ c.irLen) && decide (1 ≤ c.drLen)

/-- 10_state.md R36: the capture inputs have the widths of their registers. -/
def Inputs.wf (c : Config) (p : Inputs) : Bool := p.irCapIn.length == c.irLen && p.drCapIn.length == c.drLen

/-- The inputs an event carries, if any, have the widths of the instance. -/
def Event.wf (c : Config) : Event → Bool
  | .edge p => p.wf c
  | .assertReset => true
  | .deassertReset => true

/-- Every move of a stimulus sequence fits the instance. -/
def stimulusWf (c : Config) (es : List Event) : Bool := es.all (Event.wf c)

/-- 60_exceptions.md R201: the domain of a `tms` or `tdi` argument of the software call, "neither 0 nor 1" being
malformed. -/
def isBit (n : Nat) : Bool := decide (n ≤ 1)

end Sys2Proof
end

