-- ==== Sys2Proof/Decode.lean ====
section
/-! DEFINITION. Selecting the step operation of an edge (30_encoding.md section 2), the stimulus word (section 1), the
6-bit step code of the opcode table (R75), the decoder of that code from bytes, and the encoder. -/

namespace Sys2Proof

/-- The position of a State in the list of 00_scope.md R14, the high field of the step code (30_encoding.md R75). A
presentation device: no input and no hardware encoding (decision D10; log 13). -/
def TapState.index : TapState → BitVec 4
  | .testLogicReset => 0
  | .runTestIdle => 1
  | .selectDrScan => 2
  | .captureDr => 3
  | .shiftDr => 4
  | .exit1Dr => 5
  | .pauseDr => 6
  | .exit2Dr => 7
  | .updateDr => 8
  | .selectIrScan => 9
  | .captureIr => 10
  | .shiftIr => 11
  | .exit1Ir => 12
  | .pauseIr => 13
  | .exit2Ir => 14
  | .updateIr => 15

/-- The State at a position of the list of 00_scope.md R14. -/
def TapState.ofIndex (k : BitVec 4) : TapState :=
  match k.toNat with
  | 0 => .testLogicReset
  | 1 => .runTestIdle
  | 2 => .selectDrScan
  | 3 => .captureDr
  | 4 => .shiftDr
  | 5 => .exit1Dr
  | 6 => .pauseDr
  | 7 => .exit2Dr
  | 8 => .updateDr
  | 9 => .selectIrScan
  | 10 => .captureIr
  | 11 => .shiftIr
  | 12 => .exit1Ir
  | 13 => .pauseIr
  | 14 => .exit2Ir
  | _ => .updateIr

/-- The step operation of an edge: the row of 30_encoding.md R76 whose current State is `q` and whose `tms` is the input
(R74, R75). Total: "None of the four stimulus words is illegal or reserved in any State" (R77). -/
def select (q : TapState) (tms tdi : Bool) : Instr :=
  match q, tms with
  | .testLogicReset, true => .tlr1 tdi
  | .testLogicReset, false => .tlr0 tdi
  | .runTestIdle, true => .rti1 tdi
  | .runTestIdle, false => .rti0 tdi
  | .selectDrScan, true => .sds1 tdi
  | .selectDrScan, false => .sds0 tdi
  | .captureDr, true => .cdr1 tdi
  | .captureDr, false => .cdr0 tdi
  | .shiftDr, true => .sdr1 tdi
  | .shiftDr, false => .sdr0 tdi
  | .exit1Dr, true => .e1d1 tdi
  | .exit1Dr, false => .e1d0 tdi
  | .pauseDr, true => .pdr1 tdi
  | .pauseDr, false => .pdr0 tdi
  | .exit2Dr, true => .e2d1 tdi
  | .exit2Dr, false => .e2d0 tdi
  | .updateDr, true => .udr1 tdi
  | .updateDr, false => .udr0 tdi
  | .selectIrScan, true => .sis1 tdi
  | .selectIrScan, false => .sis0 tdi
  | .captureIr, true => .cir1 tdi
  | .captureIr, false => .cir0 tdi
  | .shiftIr, true => .sir1 tdi
  | .shiftIr, false => .sir0 tdi
  | .exit1Ir, true => .e1i1 tdi
  | .exit1Ir, false => .e1i0 tdi
  | .pauseIr, true => .pir1 tdi
  | .pauseIr, false => .pir0 tdi
  | .exit2Ir, true => .e2i1 tdi
  | .exit2Ir, false => .e2i0 tdi
  | .updateIr, true => .uir1 tdi
  | .updateIr, false => .uir0 tdi

/-- The stimulus word of 30_encoding.md R70: `tms = w[1]`, `tdi = w[0]`. -/
def stimWord (tms tdi : Bool) : BitVec 2 := BitVec.ofNat 2 (2 * tms.toNat + tdi.toNat)

/-- `tms` of a stimulus word (R70). -/
def stimTms (w : BitVec 2) : Bool := w.getLsbD 1

/-- `tdi` of a stimulus word (R70). -/
def stimTdi (w : BitVec 2) : Bool := w.getLsbD 0

/-- What reaches the core of the harness byte: bits 1 and 0; bits 7 to 2 are ignored (30_encoding.md R72, decision D17;
log 12). -/
def stimOfByte (b : BitVec 8) : BitVec 2 := b.extractLsb' 0 2

/-- The operation the core performs for a stimulus word in State `q` (R70, R74). -/
def decodeStim (q : TapState) (w : BitVec 2) : Instr := select q (stimTms w) (stimTdi w)

/-- The step code of 30_encoding.md R75: `index*4 + tms*2 + tdi`. -/
def stepCode (q : TapState) (tms tdi : Bool) : BitVec 6 :=
  BitVec.ofNat 6 (q.index.toNat * 4 + tms.toNat * 2 + tdi.toNat)

/-- The operation a step code names (R75): the State of bits 5 to 2, `tms` of bit 1, `tdi` of bit 0. -/
def decodeCode (c : BitVec 6) : Instr :=
  select (TapState.ofIndex (c.extractLsb' 2 4)) (c.getLsbD 1) (c.getLsbD 0)

/-- Why a sequence of bytes holds no step code. -/
inductive DecodeError where
  /-- there is no byte to read: raised by `decodeBytes` on the empty sequence (safe: nothing is decoded) -/
  | noByte
  deriving DecidableEq, Repr

/-- The operation whose step code the first byte holds, with the bytes after it. A table row matches on the bits of its
mask, `0b111110` (R75), and takes bit 0 as the operand, so bits 7 and 6 are not examined (log 12). One byte per
operation: there are no multi-word forms (R71). -/
def decodeBytes : List (BitVec 8) → Except DecodeError (Instr × List (BitVec 8))
  | [] => .error .noByte
  | b :: rest => .ok (decodeCode (b.extractLsb' 0 6), rest)

/-- The bytes of an instruction whose bits are `w`, the first byte the least significant. -/
def bytesOfNat : Nat → Nat → List (BitVec 8)
  | 0, _ => []
  | n + 1, w => BitVec.ofNat 8 w :: bytesOfNat n (w / 256)

/-- The instruction the decoder reads from the bits `w` of a table row of `nbits` bits. -/
def decodeTableWord (nbits w : Nat) : Option Instr :=
  match decodeBytes (bytesOfNat ((nbits + 7) / 8) (w % 2 ^ nbits)) with
  | .ok (i, _) => some i
  | .error _ => none

/-- The step code of an operation: the `match` value of its row of spec/opcode_table.json with the operand in bit 0
(R75). -/
def encode : Instr → BitVec 6
  | .tlr1 tdi => BitVec.ofNat 6 (2 + tdi.toNat)
  | .tlr0 tdi => BitVec.ofNat 6 (0 + tdi.toNat)
  | .rti1 tdi => BitVec.ofNat 6 (6 + tdi.toNat)
  | .rti0 tdi => BitVec.ofNat 6 (4 + tdi.toNat)
  | .sds1 tdi => BitVec.ofNat 6 (10 + tdi.toNat)
  | .sds0 tdi => BitVec.ofNat 6 (8 + tdi.toNat)
  | .cdr1 tdi => BitVec.ofNat 6 (14 + tdi.toNat)
  | .cdr0 tdi => BitVec.ofNat 6 (12 + tdi.toNat)
  | .sdr1 tdi => BitVec.ofNat 6 (18 + tdi.toNat)
  | .sdr0 tdi => BitVec.ofNat 6 (16 + tdi.toNat)
  | .e1d1 tdi => BitVec.ofNat 6 (22 + tdi.toNat)
  | .e1d0 tdi => BitVec.ofNat 6 (20 + tdi.toNat)
  | .pdr1 tdi => BitVec.ofNat 6 (26 + tdi.toNat)
  | .pdr0 tdi => BitVec.ofNat 6 (24 + tdi.toNat)
  | .e2d1 tdi => BitVec.ofNat 6 (30 + tdi.toNat)
  | .e2d0 tdi => BitVec.ofNat 6 (28 + tdi.toNat)
  | .udr1 tdi => BitVec.ofNat 6 (34 + tdi.toNat)
  | .udr0 tdi => BitVec.ofNat 6 (32 + tdi.toNat)
  | .sis1 tdi => BitVec.ofNat 6 (38 + tdi.toNat)
  | .sis0 tdi => BitVec.ofNat 6 (36 + tdi.toNat)
  | .cir1 tdi => BitVec.ofNat 6 (42 + tdi.toNat)
  | .cir0 tdi => BitVec.ofNat 6 (40 + tdi.toNat)
  | .sir1 tdi => BitVec.ofNat 6 (46 + tdi.toNat)
  | .sir0 tdi => BitVec.ofNat 6 (44 + tdi.toNat)
  | .e1i1 tdi => BitVec.ofNat 6 (50 + tdi.toNat)
  | .e1i0 tdi => BitVec.ofNat 6 (48 + tdi.toNat)
  | .pir1 tdi => BitVec.ofNat 6 (54 + tdi.toNat)
  | .pir0 tdi => BitVec.ofNat 6 (52 + tdi.toNat)
  | .e2i1 tdi => BitVec.ofNat 6 (58 + tdi.toNat)
  | .e2i0 tdi => BitVec.ofNat 6 (56 + tdi.toNat)
  | .uir1 tdi => BitVec.ofNat 6 (62 + tdi.toNat)
  | .uir0 tdi => BitVec.ofNat 6 (60 + tdi.toNat)

/-- The bytes of an operation: one, with bits 7 and 6 clear. -/
def encodeBytes (i : Instr) : List (BitVec 8) := [(encode i).setWidth 8]

/-- The current State an operation is an operation of (R76, first column). -/
def Instr.home : Instr → TapState
  | .tlr1 _ => .testLogicReset
  | .tlr0 _ => .testLogicReset
  | .rti1 _ => .runTestIdle
  | .rti0 _ => .runTestIdle
  | .sds1 _ => .selectDrScan
  | .sds0 _ => .selectDrScan
  | .cdr1 _ => .captureDr
  | .cdr0 _ => .captureDr
  | .sdr1 _ => .shiftDr
  | .sdr0 _ => .shiftDr
  | .e1d1 _ => .exit1Dr
  | .e1d0 _ => .exit1Dr
  | .pdr1 _ => .pauseDr
  | .pdr0 _ => .pauseDr
  | .e2d1 _ => .exit2Dr
  | .e2d0 _ => .exit2Dr
  | .udr1 _ => .updateDr
  | .udr0 _ => .updateDr
  | .sis1 _ => .selectIrScan
  | .sis0 _ => .selectIrScan
  | .cir1 _ => .captureIr
  | .cir0 _ => .captureIr
  | .sir1 _ => .shiftIr
  | .sir0 _ => .shiftIr
  | .e1i1 _ => .exit1Ir
  | .e1i0 _ => .exit1Ir
  | .pir1 _ => .pauseIr
  | .pir0 _ => .pauseIr
  | .e2i1 _ => .exit2Ir
  | .e2i0 _ => .exit2Ir
  | .uir1 _ => .updateIr
  | .uir0 _ => .updateIr

/-- The `tms` that selects an operation (R76). -/
def Instr.tms : Instr → Bool
  | .tlr1 _ => true
  | .tlr0 _ => false
  | .rti1 _ => true
  | .rti0 _ => false
  | .sds1 _ => true
  | .sds0 _ => false
  | .cdr1 _ => true
  | .cdr0 _ => false
  | .sdr1 _ => true
  | .sdr0 _ => false
  | .e1d1 _ => true
  | .e1d0 _ => false
  | .pdr1 _ => true
  | .pdr0 _ => false
  | .e2d1 _ => true
  | .e2d0 _ => false
  | .udr1 _ => true
  | .udr0 _ => false
  | .sis1 _ => true
  | .sis0 _ => false
  | .cir1 _ => true
  | .cir0 _ => false
  | .sir1 _ => true
  | .sir0 _ => false
  | .e1i1 _ => true
  | .e1i0 _ => false
  | .pir1 _ => true
  | .pir0 _ => false
  | .e2i1 _ => true
  | .e2i0 _ => false
  | .uir1 _ => true
  | .uir0 _ => false

/-- The operand of an operation (R73). -/
def Instr.tdi : Instr → Bool
  | .tlr1 tdi => tdi
  | .tlr0 tdi => tdi
  | .rti1 tdi => tdi
  | .rti0 tdi => tdi
  | .sds1 tdi => tdi
  | .sds0 tdi => tdi
  | .cdr1 tdi => tdi
  | .cdr0 tdi => tdi
  | .sdr1 tdi => tdi
  | .sdr0 tdi => tdi
  | .e1d1 tdi => tdi
  | .e1d0 tdi => tdi
  | .pdr1 tdi => tdi
  | .pdr0 tdi => tdi
  | .e2d1 tdi => tdi
  | .e2d0 tdi => tdi
  | .udr1 tdi => tdi
  | .udr0 tdi => tdi
  | .sis1 tdi => tdi
  | .sis0 tdi => tdi
  | .cir1 tdi => tdi
  | .cir0 tdi => tdi
  | .sir1 tdi => tdi
  | .sir0 tdi => tdi
  | .e1i1 tdi => tdi
  | .e1i0 tdi => tdi
  | .pir1 tdi => tdi
  | .pir0 tdi => tdi
  | .e2i1 tdi => tdi
  | .e2i0 tdi => tdi
  | .uir1 tdi => tdi
  | .uir0 tdi => tdi

end Sys2Proof
end

