-- ==== Sys2Proof/Machine/State.lean ====
section
/-! DEFINITION. The state of the machine: the record of 10_state.md R20, the levels on the input ports, and the moves the
environment has still to make. -/

namespace Sys2Proof.Machine

/-- The input a malformed software call is reported against (60_exceptions.md R201). -/
inductive InputPin where
  | tms
  | tdi
  deriving DecidableEq, Repr

/-- The faults. The hardware has none: `step` never answers one (60_exceptions.md R209). `ResetRequired` is no
constructor: it "cannot be raised" and "a model has no ResetRequired outcome" (R202, decision D15). -/
inductive Fault where
  /-- `InvalidSignal(name)` of 60_exceptions.md R201. Raised only by `State.call`, the software reading of the
  interface, for an argument that is no bit; names the offending input, `tms` before `tdi`. Safe: the state before the
  call is kept by the caller, and no step of the hardware answers it (log 11; a malformed call while reset is asserted: log 19). -/
  | invalidSignal (pin : InputPin)
  deriving DecidableEq, Repr

/-- The refusals. -/
inductive Refusal where
  /-- An operation that has no meaning yet. Raised by no arm of `exec`. Safe. -/
  | notModelled (mnemonic : String)
  /-- An operation was asked for that the machine does not select: its current State is another one, or reset is
  asserted (30_encoding.md R74, 42_controller_step.md R186). Raised by the meanings through `State.perform`; never by
  `step`, which selects the operation by the current State. Safe: the spec has no such edge (log 10). -/
  | notSelected
  deriving DecidableEq, Repr

/-- The state of the block and of its environment. The first six fields are the whole record `σ` of 10_state.md R20; the
others belong to the environment (R36, 60_exceptions.md R213; log 1). -/
structure State where
  /-- `state` (10_state.md R21), the sequencing state -/
  state : TapState
  /-- `ir_sh` (R24), the shift stage of the Instruction Register -/
  irSh : Bits
  /-- `ir_hold` (R25), the committed stage of the Instruction Register -/
  irHold : Bits
  /-- `dr_sh` (R26), the shift stage of the Data Register -/
  drSh : Bits
  /-- `dr_hold` (R27), the committed stage of the Data Register -/
  drHold : Bits
  /-- `tdo` (R29), the serial output, held between shift edges -/
  tdo : Bool
  /-- the level on the reset input (R36; 70_reset_and_hazards.md R232 to R234) -/
  resetAsserted : Bool
  /-- the levels on the other inputs, as the latest active edge presented them (R36) -/
  inp : Inputs
  /-- the environment's moves still to come, in order (R213): the program (00_scope.md R16) -/
  stimulus : List Event
  deriving DecidableEq, Repr

/-- The state right after power-up (70_reset_and_hazards.md R231): TestLogicReset, `tdo` at `TDO_RESET`, and any content
of the four register stages, "drawn once at power-up" (93_implementation_defined.md I1). -/
def State.powerUp (irSh irHold drSh drHold : Bits) (inp : Inputs) (stimulus : List Event) : State :=
  { state := .testLogicReset, irSh := irSh, irHold := irHold, drSh := drSh, drHold := drHold,
    tdo := Config.tdoReset, resetAsserted := false, inp := inp, stimulus := stimulus }

/-- The state right after reset: power-up of the instance REF with every unspecified bit 0 (DESIGN CHOICE, log 2 and
log 3), its capture inputs at REF's constants (log 14), and no move of the environment placed (log 8). -/
def State.reset : State :=
  State.powerUp (Bits.lit 2 0) (Bits.lit 2 0) (Bits.lit 1 0) (Bits.lit 1 0)
    { tms := false, tdi := false, irCapIn := Config.refIrCapture, drCapIn := Config.refDrCapture } []

end Sys2Proof.Machine
end

