-- ==== Sys2Proof/Machine/Flags.lean ====
section
/-! DEFINITION. The ControlSignals and the other derived, unstored views of the current State (10_state.md R30 to R32,
42_controller_step.md R180). -/

namespace Sys2Proof.Machine

/-- The seven ControlSignals (42_controller_step.md R180), "never stored independently". -/
structure Signals where
  selectIR : Bool
  selectDR : Bool
  capture : Bool
  shift : Bool
  exit1 : Bool
  update : Bool
  pause : Bool
  deriving DecidableEq, Repr

/-- A row of the table of 42_controller_step.md R180, its seven columns in the table's order. -/
def Signals.row (selectIR selectDR capture shift exit1 update pause : Nat) : Signals :=
  { selectIR := selectIR == 1, selectDR := selectDR == 1, capture := capture == 1, shift := shift == 1,
    exit1 := exit1 == 1, update := update == 1, pause := pause == 1 }

/-- `sig(S)`: the table of 42_controller_step.md R180 (decision D9; log 15). -/
def sig : TapState → Signals
  | .testLogicReset => Signals.row 0 0 0 0 0 0 0
  | .runTestIdle => Signals.row 0 0 0 0 0 0 0
  | .selectDrScan => Signals.row 0 1 0 0 0 0 0
  | .captureDr => Signals.row 0 1 1 0 0 0 0
  | .shiftDr => Signals.row 0 1 0 1 0 0 0
  | .exit1Dr => Signals.row 0 1 0 0 1 0 0
  | .pauseDr => Signals.row 0 1 0 0 0 0 1
  | .exit2Dr => Signals.row 0 1 0 0 0 0 0
  | .updateDr => Signals.row 0 1 0 0 0 1 0
  | .selectIrScan => Signals.row 1 0 0 0 0 0 0
  | .captureIr => Signals.row 1 0 1 0 0 0 0
  | .shiftIr => Signals.row 1 0 0 1 0 0 0
  | .exit1Ir => Signals.row 1 0 0 0 1 0 0
  | .pauseIr => Signals.row 1 0 0 0 0 0 1
  | .exit2Ir => Signals.row 1 0 0 0 0 0 0
  | .updateIr => Signals.row 1 0 0 0 0 1 0

/-- The path a State is on: the last column of 00_scope.md R14. -/
def TapState.path : TapState → Option Path
  | .testLogicReset => none
  | .runTestIdle => none
  | .selectDrScan => some .dr
  | .captureDr => some .dr
  | .shiftDr => some .dr
  | .exit1Dr => some .dr
  | .pauseDr => some .dr
  | .exit2Dr => some .dr
  | .updateDr => some .dr
  | .selectIrScan => some .ir
  | .captureIr => some .ir
  | .shiftIr => some .ir
  | .exit1Ir => some .ir
  | .pauseIr => some .ir
  | .exit2Ir => some .ir
  | .updateIr => some .ir

/-- The active register: at most one, none in TestLogicReset and RunTestIdle (10_state.md R32; 90_conflicts.md C3). -/
def State.activeRegister (s : State) : Option Path := TapState.path s.state

/-- "Currently shifting" of a register, derived as `shift AND select` (10_state.md R31, decision D19). -/
def State.shifting (r : Path) (s : State) : Bool :=
  match r with
  | .dr => (sig s.state).shift && (sig s.state).selectDR
  | .ir => (sig s.state).shift && (sig s.state).selectIR

end Sys2Proof.Machine
end

