-- ==== Sys2Proof/Machine/Operands.lean ====
section
/-! DEFINITION. The operands of a step operation (30_encoding.md R73): the bit `tdi`, carried by the instruction, and
the capture value of the register, read from its input port. There are no immediates and no addresses. An operation that
does not use an operand (R78, R79) does not name it in its meaning. -/

namespace Sys2Proof.Machine

/-- The capture operand of a register: the level its capture source presents at the edge (10_state.md R36, R171). -/
def State.captureOperand (r : Path) (s : State) : Bits :=
  match r with
  | .dr => s.inp.drCapIn
  | .ir => s.inp.irCapIn

end Sys2Proof.Machine
end

