-- ==== Sys2Proof/Machine/Ops.lean ====
section
/-! DEFINITION. The shared operations: the transition function, the serial path, the four register actions, the frame of
a step operation, and the reset events, which are this hardware's counterpart of taking an exception and returning. -/

namespace Sys2Proof.Machine

/-- `next(S, tms)`: the transition table of 40_tap_state_machine.md R104 to R135, as 30_encoding.md R76 prints it. -/
def next (q : TapState) (tms : Bool) : TapState :=
  match q, tms with
  | .testLogicReset, true => .testLogicReset
  | .testLogicReset, false => .runTestIdle
  | .runTestIdle, true => .selectDrScan
  | .runTestIdle, false => .runTestIdle
  | .selectDrScan, true => .selectIrScan
  | .selectDrScan, false => .captureDr
  | .captureDr, true => .exit1Dr
  | .captureDr, false => .shiftDr
  | .shiftDr, true => .exit1Dr
  | .shiftDr, false => .shiftDr
  | .exit1Dr, true => .updateDr
  | .exit1Dr, false => .pauseDr
  | .pauseDr, true => .exit2Dr
  | .pauseDr, false => .pauseDr
  | .exit2Dr, true => .updateDr
  | .exit2Dr, false => .shiftDr
  | .updateDr, true => .selectDrScan
  | .updateDr, false => .runTestIdle
  | .selectIrScan, true => .testLogicReset
  | .selectIrScan, false => .captureIr
  | .captureIr, true => .exit1Ir
  | .captureIr, false => .shiftIr
  | .shiftIr, true => .exit1Ir
  | .shiftIr, false => .shiftIr
  | .exit1Ir, true => .updateIr
  | .exit1Ir, false => .pauseIr
  | .pauseIr, true => .exit2Ir
  | .pauseIr, false => .pauseIr
  | .exit2Ir, true => .updateIr
  | .exit2Ir, false => .shiftIr
  | .updateIr, true => .selectDrScan
  | .updateIr, false => .runTestIdle

/-- The bit a shift edge drives on `tdo`: index 0 of the old shift stage (20_memory.md R52; log 4). A stage of width 0
is no stage of an instance (00_scope.md R6). -/
def shiftOut (sh : Bits) : Bool := sh.headD false

/-- The shift stage after a shift edge, `{ tdi, sh_old[L-1:1] }`: every bit moves one index down and `tdi` enters at
index `L-1` (20_memory.md R52; log 4). -/
def shiftIn (tdi : Bool) (sh : Bits) : Bits := sh.tail ++ [tdi]

/-- Hold: no component but `state` is written (41_shift_register_path.md R150 to R152, R155 to R157, R159, R162 to
R164). -/
def State.hold (s : State) : State := s

/-- Capture: the shift stage of the register takes its capture operand (R153, R160). -/
def State.capture (r : Path) (s : State) : State :=
  match r with
  | .dr => { s with drSh := s.captureOperand .dr }
  | .ir => { s with irSh := s.captureOperand .ir }

/-- Shift: one bit out to `tdo` and one bit in from `tdi`, both computed from the old shift stage (R154, R161). -/
def State.shift (r : Path) (tdi : Bool) (s : State) : State :=
  match r with
  | .dr => { s with tdo := shiftOut s.drSh, drSh := shiftIn tdi s.drSh }
  | .ir => { s with tdo := shiftOut s.irSh, irSh := shiftIn tdi s.irSh }

/-- Update: the committed stage takes the shift stage as it stands (R158, R165; log 16). -/
def State.update (r : Path) (s : State) : State :=
  match r with
  | .dr => { s with drHold := s.drSh }
  | .ir => { s with irHold := s.irSh }

/-- `state <- q`. -/
def State.goTo (q : TapState) (s : State) : State := { s with state := q }

/-- The machine selects the operations of State `q`: `q` is its current State and reset is deasserted (30_encoding.md
R74, 42_controller_step.md R183, R186). -/
def State.selects (q : TapState) (s : State) : Bool := s.state == q && !s.resetAsserted

/-- The frame of every step operation (42_controller_step.md R183): in its own State, the register action of the edge,
computed from the state before the edge, and then the successor State. -/
def State.perform (home : TapState) (action : State → State) (succ : TapState) (s : State) :
    Host.Outcome State Fault Refusal :=
  if s.selects home then .next ((action s).goTo succ) else .refused .notSelected

/-- The levels an active edge reads are those its event carries (00_scope.md R12, 20_memory.md R63). -/
def State.present (p : Inputs) (s : State) : State := { s with inp := p }

/-- Event AssertReset (70_reset_and_hazards.md R232): `state` and `tdo` are forced, no register stage is written, no
clock edge is needed and no other input is read. It saves nothing and goes nowhere (60_exceptions.md R206). -/
def State.assertReset (s : State) : State :=
  { s with state := .testLogicReset, tdo := Config.tdoReset, resetAsserted := true }

/-- Event DeassertReset (70_reset_and_hazards.md R234): "changes nothing in `σ`"; active edges are steps again. -/
def State.deassertReset (s : State) : State := { s with resetAsserted := false }

end Sys2Proof.Machine
end

