-- ==== Sys2Proof/Machine/DrPath.lean ====
section
/-! DEFINITION. The step operations of the DR path, SelectDrScan to UpdateDr: one meaning per row of 30_encoding.md R76. Each names the
rule of its transition (40_tap_state_machine.md) and of its action (41_shift_register_path.md). -/

namespace Sys2Proof.Machine

/-- `SDS/1`, R108 and R152: hold, then SelectIrScan. -/
def execSds1 (_tdi : Bool) (s : State) : Host.Outcome State Fault Refusal :=
  s.perform .selectDrScan State.hold .selectIrScan

/-- `SDS/0`, R109 and R152: hold, then CaptureDr. -/
def execSds0 (_tdi : Bool) (s : State) : Host.Outcome State Fault Refusal :=
  s.perform .selectDrScan State.hold .captureDr

/-- `CDR/1`, R110 and R153: capture DR, then Exit1Dr. -/
def execCdr1 (_tdi : Bool) (s : State) : Host.Outcome State Fault Refusal :=
  s.perform .captureDr (State.capture .dr) .exit1Dr

/-- `CDR/0`, R111 and R153: capture DR, then ShiftDr. -/
def execCdr0 (_tdi : Bool) (s : State) : Host.Outcome State Fault Refusal :=
  s.perform .captureDr (State.capture .dr) .shiftDr

/-- `SDR/1`, R112 and R154: shift DR, then Exit1Dr. -/
def execSdr1 (tdi : Bool) (s : State) : Host.Outcome State Fault Refusal :=
  s.perform .shiftDr (State.shift .dr tdi) .exit1Dr

/-- `SDR/0`, R113 and R154: shift DR, then ShiftDr. -/
def execSdr0 (tdi : Bool) (s : State) : Host.Outcome State Fault Refusal :=
  s.perform .shiftDr (State.shift .dr tdi) .shiftDr

/-- `E1D/1`, R114 and R155: hold, then UpdateDr. -/
def execE1d1 (_tdi : Bool) (s : State) : Host.Outcome State Fault Refusal :=
  s.perform .exit1Dr State.hold .updateDr

/-- `E1D/0`, R115 and R155: hold, then PauseDr. -/
def execE1d0 (_tdi : Bool) (s : State) : Host.Outcome State Fault Refusal :=
  s.perform .exit1Dr State.hold .pauseDr

/-- `PDR/1`, R116 and R156: hold, then Exit2Dr. -/
def execPdr1 (_tdi : Bool) (s : State) : Host.Outcome State Fault Refusal :=
  s.perform .pauseDr State.hold .exit2Dr

/-- `PDR/0`, R117 and R156: hold, then PauseDr. -/
def execPdr0 (_tdi : Bool) (s : State) : Host.Outcome State Fault Refusal :=
  s.perform .pauseDr State.hold .pauseDr

/-- `E2D/1`, R118 and R157: hold, then UpdateDr. -/
def execE2d1 (_tdi : Bool) (s : State) : Host.Outcome State Fault Refusal :=
  s.perform .exit2Dr State.hold .updateDr

/-- `E2D/0`, R119 and R157: hold, then ShiftDr. -/
def execE2d0 (_tdi : Bool) (s : State) : Host.Outcome State Fault Refusal :=
  s.perform .exit2Dr State.hold .shiftDr

/-- `UDR/1`, R120 and R158: update DR, then SelectDrScan. -/
def execUdr1 (_tdi : Bool) (s : State) : Host.Outcome State Fault Refusal :=
  s.perform .updateDr (State.update .dr) .selectDrScan

/-- `UDR/0`, R121 and R158: update DR, then RunTestIdle. -/
def execUdr0 (_tdi : Bool) (s : State) : Host.Outcome State Fault Refusal :=
  s.perform .updateDr (State.update .dr) .runTestIdle

end Sys2Proof.Machine
end

