-- ==== Sys2Proof/Machine/IrPath.lean ====
section
/-! DEFINITION. The step operations of the IR path, SelectIrScan to UpdateIr: one meaning per row of 30_encoding.md R76. Each names the
rule of its transition (40_tap_state_machine.md) and of its action (41_shift_register_path.md). -/

namespace Sys2Proof.Machine

/-- `SIS/1`, R122 and R159: hold, then TestLogicReset. -/
def execSis1 (_tdi : Bool) (s : State) : Host.Outcome State Fault Refusal :=
  s.perform .selectIrScan State.hold .testLogicReset

/-- `SIS/0`, R123 and R159: hold, then CaptureIr. -/
def execSis0 (_tdi : Bool) (s : State) : Host.Outcome State Fault Refusal :=
  s.perform .selectIrScan State.hold .captureIr

/-- `CIR/1`, R124 and R160: capture IR, then Exit1Ir. -/
def execCir1 (_tdi : Bool) (s : State) : Host.Outcome State Fault Refusal :=
  s.perform .captureIr (State.capture .ir) .exit1Ir

/-- `CIR/0`, R125 and R160: capture IR, then ShiftIr. -/
def execCir0 (_tdi : Bool) (s : State) : Host.Outcome State Fault Refusal :=
  s.perform .captureIr (State.capture .ir) .shiftIr

/-- `SIR/1`, R126 and R161: shift IR, then Exit1Ir. -/
def execSir1 (tdi : Bool) (s : State) : Host.Outcome State Fault Refusal :=
  s.perform .shiftIr (State.shift .ir tdi) .exit1Ir

/-- `SIR/0`, R127 and R161: shift IR, then ShiftIr. -/
def execSir0 (tdi : Bool) (s : State) : Host.Outcome State Fault Refusal :=
  s.perform .shiftIr (State.shift .ir tdi) .shiftIr

/-- `E1I/1`, R128 and R162: hold, then UpdateIr. -/
def execE1i1 (_tdi : Bool) (s : State) : Host.Outcome State Fault Refusal :=
  s.perform .exit1Ir State.hold .updateIr

/-- `E1I/0`, R129 and R162: hold, then PauseIr. -/
def execE1i0 (_tdi : Bool) (s : State) : Host.Outcome State Fault Refusal :=
  s.perform .exit1Ir State.hold .pauseIr

/-- `PIR/1`, R130 and R163: hold, then Exit2Ir. -/
def execPir1 (_tdi : Bool) (s : State) : Host.Outcome State Fault Refusal :=
  s.perform .pauseIr State.hold .exit2Ir

/-- `PIR/0`, R131 and R163: hold, then PauseIr. -/
def execPir0 (_tdi : Bool) (s : State) : Host.Outcome State Fault Refusal :=
  s.perform .pauseIr State.hold .pauseIr

/-- `E2I/1`, R132 and R164: hold, then UpdateIr. -/
def execE2i1 (_tdi : Bool) (s : State) : Host.Outcome State Fault Refusal :=
  s.perform .exit2Ir State.hold .updateIr

/-- `E2I/0`, R133 and R164: hold, then ShiftIr. -/
def execE2i0 (_tdi : Bool) (s : State) : Host.Outcome State Fault Refusal :=
  s.perform .exit2Ir State.hold .shiftIr

/-- `UIR/1`, R134 and R165: update IR, then SelectDrScan. -/
def execUir1 (_tdi : Bool) (s : State) : Host.Outcome State Fault Refusal :=
  s.perform .updateIr (State.update .ir) .selectDrScan

/-- `UIR/0`, R135 and R165: update IR, then RunTestIdle. -/
def execUir0 (_tdi : Bool) (s : State) : Host.Outcome State Fault Refusal :=
  s.perform .updateIr (State.update .ir) .runTestIdle

end Sys2Proof.Machine
end

