-- ==== Sys2Proof/Machine/TestIdle.lean ====
section
/-! DEFINITION. The step operations of TestLogicReset and RunTestIdle, the States on neither path: one meaning per row of 30_encoding.md R76. Each names the
rule of its transition (40_tap_state_machine.md) and of its action (41_shift_register_path.md). -/

namespace Sys2Proof.Machine

/-- `TLR/1`, R104 and R150: hold, then TestLogicReset. -/
def execTlr1 (_tdi : Bool) (s : State) : Host.Outcome State Fault Refusal :=
  s.perform .testLogicReset State.hold .testLogicReset

/-- `TLR/0`, R105 and R150: hold, then RunTestIdle. -/
def execTlr0 (_tdi : Bool) (s : State) : Host.Outcome State Fault Refusal :=
  s.perform .testLogicReset State.hold .runTestIdle

/-- `RTI/1`, R106 and R151: hold, then SelectDrScan. -/
def execRti1 (_tdi : Bool) (s : State) : Host.Outcome State Fault Refusal :=
  s.perform .runTestIdle State.hold .selectDrScan

/-- `RTI/0`, R107 and R151: hold, then RunTestIdle. -/
def execRti0 (_tdi : Bool) (s : State) : Host.Outcome State Fault Refusal :=
  s.perform .runTestIdle State.hold .runTestIdle

end Sys2Proof.Machine
end

