-- ==== Sys2Proof/Machine/Dispatch.lean ====
section
/-! DEFINITION. One arm per step operation (30_encoding.md R76). -/

namespace Sys2Proof.Machine

/-- The meaning of a step operation. -/
def exec (i : Instr) (s : State) : Host.Outcome State Fault Refusal :=
  match i with
  | .tlr1 tdi => Sys2Proof.Machine.execTlr1 tdi s
  | .tlr0 tdi => Sys2Proof.Machine.execTlr0 tdi s
  | .rti1 tdi => Sys2Proof.Machine.execRti1 tdi s
  | .rti0 tdi => Sys2Proof.Machine.execRti0 tdi s
  | .sds1 tdi => Sys2Proof.Machine.execSds1 tdi s
  | .sds0 tdi => Sys2Proof.Machine.execSds0 tdi s
  | .cdr1 tdi => Sys2Proof.Machine.execCdr1 tdi s
  | .cdr0 tdi => Sys2Proof.Machine.execCdr0 tdi s
  | .sdr1 tdi => Sys2Proof.Machine.execSdr1 tdi s
  | .sdr0 tdi => Sys2Proof.Machine.execSdr0 tdi s
  | .e1d1 tdi => Sys2Proof.Machine.execE1d1 tdi s
  | .e1d0 tdi => Sys2Proof.Machine.execE1d0 tdi s
  | .pdr1 tdi => Sys2Proof.Machine.execPdr1 tdi s
  | .pdr0 tdi => Sys2Proof.Machine.execPdr0 tdi s
  | .e2d1 tdi => Sys2Proof.Machine.execE2d1 tdi s
  | .e2d0 tdi => Sys2Proof.Machine.execE2d0 tdi s
  | .udr1 tdi => Sys2Proof.Machine.execUdr1 tdi s
  | .udr0 tdi => Sys2Proof.Machine.execUdr0 tdi s
  | .sis1 tdi => Sys2Proof.Machine.execSis1 tdi s
  | .sis0 tdi => Sys2Proof.Machine.execSis0 tdi s
  | .cir1 tdi => Sys2Proof.Machine.execCir1 tdi s
  | .cir0 tdi => Sys2Proof.Machine.execCir0 tdi s
  | .sir1 tdi => Sys2Proof.Machine.execSir1 tdi s
  | .sir0 tdi => Sys2Proof.Machine.execSir0 tdi s
  | .e1i1 tdi => Sys2Proof.Machine.execE1i1 tdi s
  | .e1i0 tdi => Sys2Proof.Machine.execE1i0 tdi s
  | .pir1 tdi => Sys2Proof.Machine.execPir1 tdi s
  | .pir0 tdi => Sys2Proof.Machine.execPir0 tdi s
  | .e2i1 tdi => Sys2Proof.Machine.execE2i1 tdi s
  | .e2i0 tdi => Sys2Proof.Machine.execE2i0 tdi s
  | .uir1 tdi => Sys2Proof.Machine.execUir1 tdi s
  | .uir0 tdi => Sys2Proof.Machine.execUir0 tdi s

end Sys2Proof.Machine
end

