-- ==== Sys2Proof/Machine/Edge.lean ====
section
/-! DEFINITION. What one move of the environment does (60_exceptions.md R213): an active clock edge or a reset event. -/

namespace Sys2Proof.Machine

/-- An active clock edge with inputs `p`. With reset deasserted it performs the operation the current State and `tms`
select (42_controller_step.md R183, 30_encoding.md R74); while reset is asserted it performs no step
(70_reset_and_hazards.md R233; log 7). -/
def State.edge (p : Inputs) (s : State) : Host.Outcome State Fault Refusal :=
  if s.resetAsserted then .next (s.present p) else exec (select s.state p.tms p.tdi) (s.present p)

/-- One move of the environment; precedence of reset over the clock is R205. -/
def State.event (e : Event) (s : State) : Host.Outcome State Fault Refusal :=
  match e with
  | .edge p => s.edge p
  | .assertReset => .next s.assertReset
  | .deassertReset => .next s.deassertReset

/-- The environment makes its next move. When it has none, nothing changes: it may stop supplying edges "for any length
of time" (60_exceptions.md R213; 10_state.md R39; log 9). -/
def State.advance (s : State) : Host.Outcome State Fault Refusal :=
  match s.stimulus with
  | [] => .next s
  | e :: rest => State.event e { s with stimulus := rest }

/-- The state in which the next move of the environment is the active edge that performs the operation of step code `c`:
the current State and the inputs are those of the code, reset is deasserted, the capture inputs keep the levels on
their ports, and the moves placed before stand behind that edge (log 8). -/
def State.withCode (c : BitVec 6) (s : State) : State :=
  { s with
    state := (decodeCode c).home
    resetAsserted := false
    stimulus :=
      .edge { tms := (decodeCode c).tms, tdi := (decodeCode c).tdi,
              irCapIn := s.inp.irCapIn, drCapIn := s.inp.drCapIn } :: s.stimulus }

end Sys2Proof.Machine
end

