-- ==== Sys2Proof/Machine/Step.lean ====
section
/-! DEFINITION. One step of the machine, and the placing of one operation where the next step runs it. -/

namespace Sys2Proof.Machine

/-- One step: the environment's next move happens (00_scope.md R8, R12). -/
def step (s : State) : Host.Outcome State Fault Refusal := s.advance

/-- `s` with the operation of a table row as the very next thing that happens. The step code of a row stands in the low
six bits of its first byte (30_encoding.md R75; log 8, log 12). -/
def State.withFetchWord (s : State) (nbits w : Nat) : State :=
  match decodeTableWord nbits w with
  | some i => s.withCode (encode i)
  | none => s

end Sys2Proof.Machine
end

