-- ==== Sys2Proof/Machine/Call.lean ====
section
/-! DEFINITION. The software reading of the interface: one call of the document's `step` with arguments wider than a bit
(60_exceptions.md R200, R201, R205 to R207). The hardware has no such call; `step` does not use it (log 11). -/

namespace Sys2Proof.Machine

/-- One call `step(tms, tdi)`: the domain of the arguments is checked before anything else, `tms` first; a malformed
argument is reported by name, nothing is written and no edge happens, even where `tdi` would be ignored (R201, decision
D14). Otherwise the call is one active edge.
DESIGN CHOICE (log 19): the check comes first while reset is asserted too. R205 puts reset before the clock and the check
before the step, and does not say whether a malformed call is reported while reset is asserted; here it is. -/
def State.call (tms tdi : Nat) (irCapIn drCapIn : Bits) (s : State) : Host.Outcome State Fault Refusal :=
  if !isBit tms then .fault (.invalidSignal .tms)
  else if !isBit tdi then .fault (.invalidSignal .tdi)
  else s.edge { tms := tms == 1, tdi := tdi == 1, irCapIn := irCapIn, drCapIn := drCapIn }

end Sys2Proof.Machine
end

