-- ==== Sys2Proof/Machine/Controller.lean ====
section
/-! DEFINITION. The Controller as the document writes it (42_controller_step.md R183, steps (1) to (4)): ControlSignals,
`onEdge`, `next`, the returned bit. The machine itself runs the 32 operations one by one; that the two agree is a
statement of Certificates/Slice0/Obligations.lean. -/

namespace Sys2Proof.Machine

/-- `onEdge(signals, tdi) -> (maybe tdoBit)` of 41_shift_register_path.md R145, chosen by the signals alone (R147): the
record after the register action, and the bit shifted out if there is one. -/
def onEdge (g : Signals) (p : Inputs) (s : State) : State × Option Bool :=
  if g.selectDR then
    if g.capture then ({ s with drSh := p.drCapIn }, none)
    else if g.shift then ({ s with drSh := shiftIn p.tdi s.drSh }, some (shiftOut s.drSh))
    else if g.update then ({ s with drHold := s.drSh }, none)
    else (s, none)
  else if g.selectIR then
    if g.capture then ({ s with irSh := p.irCapIn }, none)
    else if g.shift then ({ s with irSh := shiftIn p.tdi s.irSh }, some (shiftOut s.irSh))
    else if g.update then ({ s with irHold := s.irSh }, none)
    else (s, none)
  else (s, none)

/-- One step of the Controller (R183): signals of the current State, `onEdge`, `next`, and on `tdo` the bit shifted out
or the held one (R185). -/
def controllerStep (p : Inputs) (s : State) : State :=
  let r := onEdge (sig s.state) p s
  { r.1 with state := next s.state p.tms, tdo := r.2.getD s.tdo }

end Sys2Proof.Machine
end

