-- ==== Sys2Proof/Machine/Ports.lean ====
section
/-! DEFINITION. The outputs of the block (10_state.md R36, 42_controller_step.md R190). Reading one has no effect. -/

namespace Sys2Proof.Machine

/-- What the environment observes at any time (10_state.md R36, output rows). The shift stages are not outputs (R190). -/
structure Outputs where
  /-- the serial output -/
  tdo : Bool
  /-- `ir_out`, the committed IR -/
  irOut : Bits
  /-- `dr_out`, the committed DR -/
  drOut : Bits
  /-- `state_out`, "current State for diagnostics" -/
  stateOut : TapState
  /-- the ControlSignals of the current State -/
  signals : Signals
  deriving DecidableEq, Repr

/-- The levels on the output ports. -/
def State.outputs (s : State) : Outputs :=
  { tdo := s.tdo, irOut := s.irHold, drOut := s.drHold, stateOut := s.state, signals := sig s.state }

end Sys2Proof.Machine
end

