-- ==== Sys2Proof/Machine/Sequences.lean ====
section
/-! DEFINITION. Stimulus sequences: the pseudo-sequences of 30_encoding.md R81, and what a sequence does to the State and
shifts in, read off the transition function alone. -/

namespace Sys2Proof.Machine

/-- One edge `(tms, tdi)` with the capture inputs of `cap` (00_scope.md R13). -/
def pins (cap : Inputs) (tms tdi : Bool) : Inputs := { cap with tms := tms, tdi := tdi }

/-- A sequence of edges as moves of the environment. -/
def edges (ps : List Inputs) : List Event := ps.map Event.edge

/-- `TMSRESET`: five edges with `tms = 1` (R81); a don't-care `tdi` is 0 (R80). -/
def tmsReset (cap : Inputs) : List Inputs := List.replicate 5 (pins cap true false)

/-- `TOIDLE`: one edge with `tms = 0` (R81). -/
def toIdle (cap : Inputs) : List Inputs := [pins cap false false]

/-- The shift edges of a scan: `tms = 0` with each bit but the last, and `tms = 1` with the last one (R81; the last bit
goes with `tms = 1`, 70_reset_and_hazards.md R241). -/
def scanBits (cap : Inputs) : List Bool → List Inputs
  | [] => []
  | [b] => [pins cap true b]
  | b :: b' :: bs => pins cap false b :: scanBits cap (b' :: bs)

/-- `IRSCAN b_1..b_k` from RunTestIdle (R81): `k + 6` edges. -/
def irScan (cap : Inputs) (bs : List Bool) : List Inputs :=
  [pins cap true false, pins cap true false, pins cap false false, pins cap false false] ++ scanBits cap bs
    ++ [pins cap true false, pins cap false false]

/-- `DRSCAN b_1..b_k` from RunTestIdle (R81): `k + 5` edges. -/
def drScan (cap : Inputs) (bs : List Bool) : List Inputs :=
  [pins cap true false, pins cap false false, pins cap false false] ++ scanBits cap bs
    ++ [pins cap true false, pins cap false false]

/-- `PAUSE n` from an Exit1 state (R81): `n` Pause edges, Exit2, Shift. -/
def pauseEdges (cap : Inputs) (n : Nat) : List Inputs :=
  List.replicate n (pins cap false false) ++ [pins cap true false, pins cap false false]

/-- The State a sequence of edges leads to. -/
def walk (q : TapState) (ps : List Inputs) : TapState := ps.foldl (fun q p => next q p.tms) q

/-- The `tdi` bits of the edges of a sequence whose current State is `sh`, in edge order: the bits shifted in. -/
def bitsAt (sh : TapState) : TapState → List Inputs → List Bool
  | _, [] => []
  | q, p :: ps => if q = sh then p.tdi :: bitsAt sh (next q p.tms) ps else bitsAt sh (next q p.tms) ps

/-- No edge of the sequence has a current State of `bad`. -/
def avoids (bad : List TapState) : TapState → List Inputs → Bool
  | _, [] => true
  | q, p :: ps => !bad.contains q && avoids bad (next q p.tms) ps

end Sys2Proof.Machine
end

