-- ==== Sys2Proof/Safety.lean ====
section
/-! DEFINITION. What the statements speak of: the invariants of the machine, runs, and the record `σ` of a state. -/

namespace Sys2Proof.Machine

/-- The state belongs to the instance `c`, whose lengths are at least 1: both stages of each register, the capture inputs, and every edge still to
come have the widths of `c` (00_scope.md R6, R7; 10_state.md R20, R36). -/
def State.wf (c : Config) (s : State) : Bool :=
  c.wf && s.irSh.length == c.irLen && s.irHold.length == c.irLen && s.drSh.length == c.drLen
    && s.drHold.length == c.drLen && s.inp.wf c && stimulusWf c s.stimulus

/-- While reset is asserted the State is TestLogicReset and `tdo` is `TDO_RESET` (70_reset_and_hazards.md R232, R233). -/
def State.resetHeld (s : State) : Bool :=
  !s.resetAsserted || (s.state == .testLogicReset && s.tdo == Config.tdoReset)

/-- The record `σ` of 10_state.md R20: what the block stores. -/
structure Record where
  state : TapState
  irSh : Bits
  irHold : Bits
  drSh : Bits
  drHold : Bits
  tdo : Bool
  deriving DecidableEq, Repr

/-- `σ` of a state. -/
def State.record (s : State) : Record :=
  { state := s.state, irSh := s.irSh, irHold := s.irHold, drSh := s.drSh, drHold := s.drHold, tdo := s.tdo }

/-- After `k` steps from `s` the machine is in `t`: no step on the way stops. -/
def runsTo (k : Nat) (s t : State) : Prop := Sys2Proof.core.run k s = .next t

/-- The States in which the IR shift stage holds a captured value that may still be shifted or committed
(40_tap_state_machine.md R141): after the edge of CaptureIr, up to the edge of UpdateIr. -/
def irStageInUse (q : TapState) : Bool :=
  q ∈ [TapState.shiftIr, .exit1Ir, .pauseIr, .exit2Ir, .updateIr]

/-- The same for the DR shift stage. -/
def drStageInUse (q : TapState) : Bool :=
  q ∈ [TapState.shiftDr, .exit1Dr, .pauseDr, .exit2Dr, .updateDr]

/-- Two blocks in the same environment that differ at most in a shift stage not in use, and in the levels of an edge that
is over. -/
def State.agreesWith (s t : State) : Prop :=
  s.state = t.state ∧ s.irHold = t.irHold ∧ s.drHold = t.drHold ∧ s.tdo = t.tdo ∧
    s.resetAsserted = t.resetAsserted ∧ s.stimulus = t.stimulus ∧
    (irStageInUse s.state = true → s.irSh = t.irSh) ∧ (drStageInUse s.state = true → s.drSh = t.drSh)

/-- The renaming of 40_tap_state_machine.md R142: Dr becomes Ir in the names of the DR-path States. -/
def mirror : TapState → TapState
  | .selectDrScan => .selectIrScan
  | .captureDr => .captureIr
  | .shiftDr => .shiftIr
  | .exit1Dr => .exit1Ir
  | .pauseDr => .pauseIr
  | .exit2Dr => .exit2Ir
  | .updateDr => .updateIr
  | q => q

/-- A safe step: the machine goes on (60_exceptions.md R209: "no stuck state, no fault outcome and no refusal"). -/
def goesOn (s : State) : Prop := ∃ t, step s = .next t

end Sys2Proof.Machine
end

