-- ==== Sys2Proof/Certificates/Slice0/Obligations.lean ====
section
/-! DEFINITION. The statements for the provers. A docstring names the rules of spec/ a statement formalises and, where it
rests on a choice of the spec (a decision D<n>) or of the model, the log entry. `σ` is `State.record`. -/

open Sys2Proof Sys2Proof.Machine

/-! ### Encoding and selection -/

/-- Words written out from 30_encoding.md R75 and R76 decode to the operations they stand for. -/
def Obligations.WrittenWordsDecode : Prop :=
  decodeBytes [0b00000011#8] = .ok (.tlr1 true, []) ∧
  decodeBytes [0b00000100#8] = .ok (.rti0 false, []) ∧
  decodeBytes [0b00010011#8] = .ok (.sdr1 true, []) ∧
  decodeBytes [0b00100000#8] = .ok (.udr0 false, []) ∧
  decodeBytes [0b00101001#8, 0b11111111#8] = .ok (.cir0 true, [0b11111111#8]) ∧
  decodeBytes [0b00111010#8] = .ok (.e2i1 false, []) ∧
  decodeBytes [] = .error .noByte

/-- Decode and encode agree, in both directions and on every operand: each operation has exactly one step code and each
of the 64 codes names exactly one operation (30_encoding.md R75; the byte form is log 12). -/
def Obligations.EncodingRoundTrip : Prop :=
  (∀ i : Instr, decodeCode (encode i) = i ∧ (∀ rest, decodeBytes (encodeBytes i ++ rest) = .ok (i, rest)) ∧
    decodeTableWord 8 (encode i).toNat = some i) ∧
  (∀ c : BitVec 6, encode (decodeCode c) = c)

/-- The packings: the stimulus word of 30_encoding.md R70, the ignored bits of the harness byte (R72, decision D17), the
arithmetic of the step code and its mask (R75). -/
def Obligations.StimulusPacking : Prop :=
  (∀ tms tdi, stimTms (stimWord tms tdi) = tms ∧ stimTdi (stimWord tms tdi) = tdi ∧
    (stimWord tms tdi).toNat = 2 * tms.toNat + tdi.toNat) ∧
  (∀ w : BitVec 2, stimWord (stimTms w) (stimTdi w) = w) ∧
  (∀ b : BitVec 8, (stimOfByte b).getLsbD 1 = b.getLsbD 1 ∧ (stimOfByte b).getLsbD 0 = b.getLsbD 0) ∧
  (∀ q tms tdi, (stepCode q tms tdi).toNat = q.index.toNat * 4 + tms.toNat * 2 + tdi.toNat) ∧
  (∀ q tms tdi, stepCode q tms tdi &&& 0b111110#6 = stepCode q tms false)

/-- An active edge with reset deasserted runs the operation that the current State and the stimulus word select
(30_encoding.md R74, 42_controller_step.md R183): the environment's move is taken, its levels are on the ports, and
nothing else is added around `exec`. -/
def Obligations.StepRunsSelectedOperation : Prop :=
  ∀ (s : State) (p : Inputs) (rest : List Event) (i : Instr),
    s.stimulus = .edge p :: rest → s.resetAsserted = false → decodeStim s.state (stimWord p.tms p.tdi) = i →
    i.home = s.state ∧ i.tms = p.tms ∧ i.tdi = p.tdi ∧ encode i = stepCode s.state p.tms p.tdi ∧
    step s = exec i { s with inp := p, stimulus := rest }

/-- An operation placed with `withFetchWord` is what the very next step runs (the model's own way of placing one, log 8):
in its own State, with reset deasserted and the capture inputs at their present levels. -/
def Obligations.PlacedOperationRunsNext : Prop :=
  ∀ (s : State) (i : Instr),
    step (s.withFetchWord 8 (encode i).toNat) =
      exec i { s with state := i.home, resetAsserted := false, inp := { s.inp with tms := i.tms, tdi := i.tdi } }

/-! ### Reset values and invariants -/

/-- Power-up (10_state.md R37, 70_reset_and_hazards.md R231): the State is TestLogicReset, `tdo` is 0, no ControlSignal is
up and the stages hold whatever was drawn. `State.reset` is the model's choice among these states: every unspecified bit
0, the widths and capture levels of REF, reset deasserted, no move placed (log 2, log 3, log 7, log 8, log 14). -/
def Obligations.ResetValues : Prop :=
  (∀ (a b c d : Bits) (p : Inputs) (es : List Event),
    (State.powerUp a b c d p es).record =
      { state := .testLogicReset, irSh := a, irHold := b, drSh := c, drHold := d, tdo := false } ∧
    (State.powerUp a b c d p es).outputs.signals = Signals.row 0 0 0 0 0 0 0) ∧
  State.reset.record =
    { state := .testLogicReset, irSh := [false, false], irHold := [false, false], drSh := [false], drHold := [false],
      tdo := false } ∧
  State.reset.resetAsserted = false ∧ State.reset.stimulus = [] ∧
  State.reset.inp = { tms := false, tdi := false, irCapIn := [true, false], drCapIn := [false] }

/-- The invariants hold at reset; at power-up of any instance they hold for every draw of its widths. -/
def Obligations.InvariantsAtReset : Prop :=
  State.reset.wf Config.ref = true ∧ State.reset.resetHeld = true ∧
  ∀ (c : Config) (a b d e : Bits) (p : Inputs) (es : List Event),
    c.wf = true → a.length = c.irLen → b.length = c.irLen → d.length = c.drLen → e.length = c.drLen →
    p.wf c = true → stimulusWf c es = true →
    (State.powerUp a b d e p es).wf c = true ∧ (State.powerUp a b d e p es).resetHeld = true

/-- Every step keeps the widths of the instance: no register ever changes its length (00_scope.md R7, decision D19). -/
def Obligations.StepKeepsWidths : Prop :=
  ∀ (c : Config) (s t : State), s.wf c = true → step s = .next t → t.wf c = true

/-- Every step keeps TestLogicReset and the reset value of `tdo` for as long as reset is asserted
(70_reset_and_hazards.md R232, R233). -/
def Obligations.StepKeepsResetHeld : Prop :=
  ∀ s t : State, s.resetHeld = true → step s = .next t → t.resetHeld = true

/-! ### The transition function and its graph -/

/-- The 32 cases of the transition table (40_tap_state_machine.md R104 to R135; 95_test_vectors.md V-T): a row gives a
State, its successor for `tms = 1` and its successor for `tms = 0`, and every State has a row. -/
def Obligations.TransitionTable : Prop :=
  let rows : List (TapState × TapState × TapState) :=
    [(.testLogicReset, .testLogicReset, .runTestIdle), (.runTestIdle, .selectDrScan, .runTestIdle),
     (.selectDrScan, .selectIrScan, .captureDr), (.captureDr, .exit1Dr, .shiftDr), (.shiftDr, .exit1Dr, .shiftDr),
     (.exit1Dr, .updateDr, .pauseDr), (.pauseDr, .exit2Dr, .pauseDr), (.exit2Dr, .updateDr, .shiftDr),
     (.updateDr, .selectDrScan, .runTestIdle), (.selectIrScan, .testLogicReset, .captureIr),
     (.captureIr, .exit1Ir, .shiftIr), (.shiftIr, .exit1Ir, .shiftIr), (.exit1Ir, .updateIr, .pauseIr),
     (.pauseIr, .exit2Ir, .pauseIr), (.exit2Ir, .updateIr, .shiftIr), (.updateIr, .selectDrScan, .runTestIdle)]
  (∀ r ∈ rows, next r.1 true = r.2.1 ∧ next r.1 false = r.2.2) ∧ ∀ q : TapState, ∃ r ∈ rows, r.1 = q

/-- Exactly six step operations leave the State unchanged (40_tap_state_machine.md R136). -/
def Obligations.SelfLoopsAreSix : Prop :=
  ∀ (q : TapState) (tms : Bool), next q tms = q ↔
    (q, tms) ∈ [(TapState.testLogicReset, true), (.runTestIdle, false), (.shiftDr, false), (.pauseDr, false),
      (.shiftIr, false), (.pauseIr, false)]

/-- The predecessors of every State (40_tap_state_machine.md R141, the table). -/
def Obligations.PredecessorTable : Prop :=
  let rows : List (TapState × List (TapState × Bool)) :=
    [(.testLogicReset, [(.testLogicReset, true), (.selectIrScan, true)]),
     (.runTestIdle, [(.testLogicReset, false), (.runTestIdle, false), (.updateDr, false), (.updateIr, false)]),
     (.selectDrScan, [(.runTestIdle, true), (.updateDr, true), (.updateIr, true)]),
     (.captureDr, [(.selectDrScan, false)]),
     (.shiftDr, [(.captureDr, false), (.shiftDr, false), (.exit2Dr, false)]),
     (.exit1Dr, [(.captureDr, true), (.shiftDr, true)]), (.pauseDr, [(.exit1Dr, false), (.pauseDr, false)]),
     (.exit2Dr, [(.pauseDr, true)]), (.updateDr, [(.exit1Dr, true), (.exit2Dr, true)]),
     (.selectIrScan, [(.selectDrScan, true)]), (.captureIr, [(.selectIrScan, false)]),
     (.shiftIr, [(.captureIr, false), (.shiftIr, false), (.exit2Ir, false)]),
     (.exit1Ir, [(.captureIr, true), (.shiftIr, true)]), (.pauseIr, [(.exit1Ir, false), (.pauseIr, false)]),
     (.exit2Ir, [(.pauseIr, true)]), (.updateIr, [(.exit1Ir, true), (.exit2Ir, true)])]
  (∀ r ∈ rows, ∀ q tms, next q tms = r.1 ↔ (q, tms) ∈ r.2) ∧ ∀ q : TapState, ∃ r ∈ rows, r.1 = q

/-- The two paths have the same shape (40_tap_state_machine.md R142): the renaming maps transitions inside the DR path onto
transitions inside the IR path; both Update States leave their path for the same successors; and the paths differ only
at the entrance and the way out. -/
def Obligations.PathsHaveTheSameShape : Prop :=
  (∀ q tms, TapState.path q = some .dr → TapState.path (next q tms) = some .dr → q ≠ .updateDr →
    next (mirror q) tms = mirror (next q tms) ∧ TapState.path (mirror q) = some .ir) ∧
  next .selectDrScan true = .selectIrScan ∧ next .selectIrScan true = .testLogicReset ∧
  (∀ tms, next .updateDr tms = next .updateIr tms) ∧ next .updateDr true = .selectDrScan ∧
  next .updateDr false = .runTestIdle ∧
  (∀ q tms, TapState.path q = some .dr ∧ TapState.path (next q tms) = some .ir ↔ (q, tms) = (.selectDrScan, true)) ∧
  (∀ q tms, TapState.path q = some .ir ∧ TapState.path (next q tms) = some .dr ↔ (q, tms) = (.updateIr, true))

/-- The trajectories under `tms = 1` with the number of edges after which each first is in TestLogicReset
(40_tap_state_machine.md R138, the table). -/
def Obligations.TmsOneTrajectories : Prop :=
  let f := fun q => next q true
  let rows : List (TapState × List TapState × Nat) :=
    [(.testLogicReset, [.testLogicReset, .testLogicReset, .testLogicReset, .testLogicReset, .testLogicReset], 0),
     (.runTestIdle, [.selectDrScan, .selectIrScan, .testLogicReset, .testLogicReset, .testLogicReset], 3),
     (.selectDrScan, [.selectIrScan, .testLogicReset, .testLogicReset, .testLogicReset, .testLogicReset], 2),
     (.captureDr, [.exit1Dr, .updateDr, .selectDrScan, .selectIrScan, .testLogicReset], 5),
     (.shiftDr, [.exit1Dr, .updateDr, .selectDrScan, .selectIrScan, .testLogicReset], 5),
     (.exit1Dr, [.updateDr, .selectDrScan, .selectIrScan, .testLogicReset, .testLogicReset], 4),
     (.pauseDr, [.exit2Dr, .updateDr, .selectDrScan, .selectIrScan, .testLogicReset], 5),
     (.exit2Dr, [.updateDr, .selectDrScan, .selectIrScan, .testLogicReset, .testLogicReset], 4),
     (.updateDr, [.selectDrScan, .selectIrScan, .testLogicReset, .testLogicReset, .testLogicReset], 3),
     (.selectIrScan, [.testLogicReset, .testLogicReset, .testLogicReset, .testLogicReset, .testLogicReset], 1),
     (.captureIr, [.exit1Ir, .updateIr, .selectDrScan, .selectIrScan, .testLogicReset], 5),
     (.shiftIr, [.exit1Ir, .updateIr, .selectDrScan, .selectIrScan, .testLogicReset], 5),
     (.exit1Ir, [.updateIr, .selectDrScan, .selectIrScan, .testLogicReset, .testLogicReset], 4),
     (.pauseIr, [.exit2Ir, .updateIr, .selectDrScan, .selectIrScan, .testLogicReset], 5),
     (.exit2Ir, [.updateIr, .selectDrScan, .selectIrScan, .testLogicReset, .testLogicReset], 4),
     (.updateIr, [.selectDrScan, .selectIrScan, .testLogicReset, .testLogicReset, .testLogicReset], 3)]
  (∀ r ∈ rows, [f r.1, f^[2] r.1, f^[3] r.1, f^[4] r.1, f^[5] r.1] = r.2.1 ∧ f^[r.2.2] r.1 = .testLogicReset ∧
    ∀ k < r.2.2, f^[k] r.1 ≠ .testLogicReset) ∧
  ∀ q : TapState, ∃ r ∈ rows, r.1 = q

/-- Reachability with shortest `tms` strings (40_tap_state_machine.md R139, the table): each printed string leads to its
State, no shorter one does, from TestLogicReset and from RunTestIdle; and the graph is strongly connected. -/
def Obligations.ShortestTmsStrings : Prop :=
  let go := fun (q : TapState) (ts : List Bool) => ts.foldl next q
  let rows : List (TapState × List Bool × List Bool) :=
    [(.testLogicReset, [], [true, true, true]), (.runTestIdle, [false], []), (.selectDrScan, [false, true], [true]),
     (.captureDr, [false, true, false], [true, false]), (.shiftDr, [false, true, false, false], [true, false, false]),
     (.exit1Dr, [false, true, false, true], [true, false, true]),
     (.pauseDr, [false, true, false, true, false], [true, false, true, false]),
     (.exit2Dr, [false, true, false, true, false, true], [true, false, true, false, true]),
     (.updateDr, [false, true, false, true, true], [true, false, true, true]),
     (.selectIrScan, [false, true, true], [true, true]), (.captureIr, [false, true, true, false], [true, true, false]),
     (.shiftIr, [false, true, true, false, false], [true, true, false, false]),
     (.exit1Ir, [false, true, true, false, true], [true, true, false, true]),
     (.pauseIr, [false, true, true, false, true, false], [true, true, false, true, false]),
     (.exit2Ir, [false, true, true, false, true, false, true], [true, true, false, true, false, true]),
     (.updateIr, [false, true, true, false, true, true], [true, true, false, true, true])]
  (∀ r ∈ rows, go .testLogicReset r.2.1 = r.1 ∧ go .runTestIdle r.2.2 = r.1 ∧
    (∀ ts, go .testLogicReset ts = r.1 → r.2.1.length ≤ ts.length) ∧
    ∀ ts, go .runTestIdle ts = r.1 → r.2.2.length ≤ ts.length) ∧
  (∀ q : TapState, ∃ r ∈ rows, r.1 = q) ∧ ∀ q q' : TapState, ∃ ts, go q ts = q'

/-! ### ControlSignals and outputs -/

/-- The ControlSignals table column by column (42_controller_step.md R180; decision D9, log 15): each signal is up exactly
in the States listed. -/
def Obligations.SignalColumns : Prop :=
  ∀ q : TapState,
    ((sig q).selectIR = true ↔
      q ∈ [TapState.selectIrScan, .captureIr, .shiftIr, .exit1Ir, .pauseIr, .exit2Ir, .updateIr]) ∧
    ((sig q).selectDR = true ↔
      q ∈ [TapState.selectDrScan, .captureDr, .shiftDr, .exit1Dr, .pauseDr, .exit2Dr, .updateDr]) ∧
    ((sig q).capture = true ↔ q ∈ [TapState.captureDr, .captureIr]) ∧
    ((sig q).shift = true ↔ q ∈ [TapState.shiftDr, .shiftIr]) ∧
    ((sig q).exit1 = true ↔ q ∈ [TapState.exit1Dr, .exit1Ir]) ∧
    ((sig q).update = true ↔ q ∈ [TapState.updateDr, .updateIr]) ∧
    ((sig q).pause = true ↔ q ∈ [TapState.pauseDr, .pauseIr])

/-- The properties of the ControlSignals table (42_controller_step.md R182): (a) the selects, (b) at most one phase signal,
(c) a phase signal implies a select, (d) which States share their signals, (e) "currently shifting"; and the active register
of 10_state.md R32. -/
def Obligations.SignalProperties : Prop :=
  let phases := fun (g : Signals) => [g.capture, g.shift, g.exit1, g.update, g.pause]
  (∀ q, ((sig q).selectIR && (sig q).selectDR) = false ∧
    (((sig q).selectIR || (sig q).selectDR) = false ↔ q = .testLogicReset ∨ q = .runTestIdle) ∧
    (phases (sig q)).count true ≤ 1 ∧ (true ∈ phases (sig q) → ((sig q).selectIR || (sig q).selectDR) = true)) ∧
  (∀ q q' : TapState, sig q = sig q' ↔ q = q' ∨
    ∃ pair ∈ [[TapState.selectDrScan, .exit2Dr], [.selectIrScan, .exit2Ir], [.testLogicReset, .runTestIdle]],
      q ∈ pair ∧ q' ∈ pair) ∧
  ∀ s : State, (s.shifting .ir = true ↔ s.state = .shiftIr) ∧ (s.shifting .dr = true ↔ s.state = .shiftDr) ∧
    (s.activeRegister = some .ir ↔ (sig s.state).selectIR = true) ∧
    (s.activeRegister = some .dr ↔ (sig s.state).selectDR = true)

/-- What the outputs show around an update edge (20_memory.md R61, 42_controller_step.md R190): before the edge the old
committed value, after it the shift stage as it stood before; `state_out` and the ControlSignals follow the State. -/
def Obligations.UpdateVisibleAfterItsEdge : Prop :=
  ∀ (s : State) (p : Inputs) (rest : List Event), s.stimulus = .edge p :: rest → s.resetAsserted = false →
    (s.state = .updateIr → s.outputs.irOut = s.irHold ∧
      ∃ t, step s = .next t ∧ t.outputs.irOut = s.irSh ∧ t.outputs.drOut = s.drHold ∧ t.outputs.tdo = s.tdo ∧
        t.outputs.stateOut = next .updateIr p.tms ∧ t.outputs.signals = sig (next .updateIr p.tms)) ∧
    (s.state = .updateDr → s.outputs.drOut = s.drHold ∧
      ∃ t, step s = .next t ∧ t.outputs.drOut = s.drSh ∧ t.outputs.irOut = s.irHold ∧ t.outputs.tdo = s.tdo ∧
        t.outputs.stateOut = next .updateDr p.tms ∧ t.outputs.signals = sig (next .updateDr p.tms))

/-! ### The 32 operations: what each does, and that nothing else changes -/

/-- `TLR/1`, `TLR/0`, `RTI/1`, `RTI/0` (40_tap_state_machine.md R104 to R107, 41_shift_register_path.md R150, R151): hold,
and the successor State; nothing else changes, whatever `tdi` is. -/
def Obligations.TestIdleOperationsRun : Prop :=
  ∀ (tdi : Bool) (s : State), s.resetAsserted = false →
    (s.state = .testLogicReset →
      exec (.tlr1 tdi) s = .next s ∧ exec (.tlr0 tdi) s = .next { s with state := .runTestIdle }) ∧
    (s.state = .runTestIdle →
      exec (.rti1 tdi) s = .next { s with state := .selectDrScan } ∧ exec (.rti0 tdi) s = .next s)

/-- The eight hold operations of the DR path (R108, R109, R114 to R119; R152, R155 to R157): only the State changes. -/
def Obligations.DrHoldOperationsRun : Prop :=
  ∀ (tdi : Bool) (s : State), s.resetAsserted = false →
    (s.state = .selectDrScan → exec (.sds1 tdi) s = .next { s with state := .selectIrScan } ∧
      exec (.sds0 tdi) s = .next { s with state := .captureDr }) ∧
    (s.state = .exit1Dr → exec (.e1d1 tdi) s = .next { s with state := .updateDr } ∧
      exec (.e1d0 tdi) s = .next { s with state := .pauseDr }) ∧
    (s.state = .pauseDr → exec (.pdr1 tdi) s = .next { s with state := .exit2Dr } ∧ exec (.pdr0 tdi) s = .next s) ∧
    (s.state = .exit2Dr → exec (.e2d1 tdi) s = .next { s with state := .updateDr } ∧
      exec (.e2d0 tdi) s = .next { s with state := .shiftDr })

/-- The eight hold operations of the IR path (R122, R123, R128 to R133; R159, R162 to R164): only the State changes. -/
def Obligations.IrHoldOperationsRun : Prop :=
  ∀ (tdi : Bool) (s : State), s.resetAsserted = false →
    (s.state = .selectIrScan → exec (.sis1 tdi) s = .next { s with state := .testLogicReset } ∧
      exec (.sis0 tdi) s = .next { s with state := .captureIr }) ∧
    (s.state = .exit1Ir → exec (.e1i1 tdi) s = .next { s with state := .updateIr } ∧
      exec (.e1i0 tdi) s = .next { s with state := .pauseIr }) ∧
    (s.state = .pauseIr → exec (.pir1 tdi) s = .next { s with state := .exit2Ir } ∧ exec (.pir0 tdi) s = .next s) ∧
    (s.state = .exit2Ir → exec (.e2i1 tdi) s = .next { s with state := .updateIr } ∧
      exec (.e2i0 tdi) s = .next { s with state := .shiftIr })

/-- The four capture operations (R110, R111, R153; R124, R125, R160): the shift stage of the path takes the level on its
capture input; the committed stages, the other register and `tdo` do not change. -/
def Obligations.CaptureOperationsRun : Prop :=
  ∀ (tdi : Bool) (s : State), s.resetAsserted = false →
    (s.state = .captureDr →
      exec (.cdr1 tdi) s = .next { s with state := .exit1Dr, drSh := s.inp.drCapIn } ∧
      exec (.cdr0 tdi) s = .next { s with state := .shiftDr, drSh := s.inp.drCapIn }) ∧
    (s.state = .captureIr →
      exec (.cir1 tdi) s = .next { s with state := .exit1Ir, irSh := s.inp.irCapIn } ∧
      exec (.cir0 tdi) s = .next { s with state := .shiftIr, irSh := s.inp.irCapIn })

/-- `SDR/1` and `SDR/0` (R112, R113, R154; bit order R52, decision D3, log 4), bit by bit: `tdo` takes the old index 0,
every other bit moves one index down, `tdi` enters at index `DR_LEN - 1`, and nothing else but the State changes. -/
def Obligations.ShiftDrOperationsRun : Prop :=
  ∀ (tdi : Bool) (s : State) (i : Instr) (q : TapState), s.state = .shiftDr → s.resetAsserted = false → s.drSh ≠ [] →
    (i = .sdr1 tdi ∧ q = .exit1Dr ∨ i = .sdr0 tdi ∧ q = .shiftDr) →
    ∃ t, exec i s = .next t ∧ s.drSh[0]? = some t.tdo ∧ t.drSh.length = s.drSh.length ∧
      (∀ k, k + 1 < s.drSh.length → t.drSh[k]? = s.drSh[k + 1]?) ∧ t.drSh[s.drSh.length - 1]? = some tdi ∧
      t = { s with state := q, tdo := t.tdo, drSh := t.drSh }

/-- `SIR/1` and `SIR/0` (R126, R127, R161; bit order R52, decision D3, log 4), bit by bit. -/
def Obligations.ShiftIrOperationsRun : Prop :=
  ∀ (tdi : Bool) (s : State) (i : Instr) (q : TapState), s.state = .shiftIr → s.resetAsserted = false → s.irSh ≠ [] →
    (i = .sir1 tdi ∧ q = .exit1Ir ∨ i = .sir0 tdi ∧ q = .shiftIr) →
    ∃ t, exec i s = .next t ∧ s.irSh[0]? = some t.tdo ∧ t.irSh.length = s.irSh.length ∧
      (∀ k, k + 1 < s.irSh.length → t.irSh[k]? = s.irSh[k + 1]?) ∧ t.irSh[s.irSh.length - 1]? = some tdi ∧
      t = { s with state := q, tdo := t.tdo, irSh := t.irSh }

/-- The four update operations (R120, R121, R158; R134, R135, R165; decision D16, log 16): the committed stage takes the
shift stage as it stands, the shift stage and `tdo` keep their values. -/
def Obligations.UpdateOperationsRun : Prop :=
  ∀ (tdi : Bool) (s : State), s.resetAsserted = false →
    (s.state = .updateDr →
      exec (.udr1 tdi) s = .next { s with state := .selectDrScan, drHold := s.drSh } ∧
      exec (.udr0 tdi) s = .next { s with state := .runTestIdle, drHold := s.drSh }) ∧
    (s.state = .updateIr →
      exec (.uir1 tdi) s = .next { s with state := .selectDrScan, irHold := s.irSh } ∧
      exec (.uir0 tdi) s = .next { s with state := .runTestIdle, irHold := s.irSh })

/-- Where an operation is not one of the current State, or reset is asserted, there is no such edge, and the model refuses
it (the model's choice, log 10; the selection rule is 30_encoding.md R74). No step asks for this. -/
def Obligations.UnselectedOperationRefused : Prop :=
  ∀ (i : Instr) (s : State), (s.state ≠ i.home ∨ s.resetAsserted = true) → exec i s = .refused .notSelected

/-! ### One step -/

/-- `step` is total: from every state, on every input, exactly one new record; it never fails, blocks or waits
(42_controller_step.md R187). -/
def Obligations.StepAlwaysGoesOn : Prop :=
  ∀ s : State, goesOn s ∧ ∀ t t', step s = .next t → step s = .next t' → t = t'

/-- The pseudocode of 42_controller_step.md R183, component by component: one active edge with reset deasserted. -/
def Obligations.StepIsThePseudocode : Prop :=
  ∀ (s : State) (p : Inputs) (rest : List Event), s.stimulus = .edge p :: rest → s.resetAsserted = false →
    ∃ t, step s = .next t ∧
      t.state = next s.state p.tms ∧
      t.drSh = (if s.state = .captureDr then p.drCapIn
        else if s.state = .shiftDr then s.drSh.drop 1 ++ [p.tdi] else s.drSh) ∧
      t.drHold = (if s.state = .updateDr then s.drSh else s.drHold) ∧
      t.irSh = (if s.state = .captureIr then p.irCapIn
        else if s.state = .shiftIr then s.irSh.drop 1 ++ [p.tdi] else s.irSh) ∧
      t.irHold = (if s.state = .updateIr then s.irSh else s.irHold) ∧
      t.tdo = (if s.state = .shiftDr then s.drSh.getD 0 false
        else if s.state = .shiftIr then s.irSh.getD 0 false else s.tdo) ∧
      t.resetAsserted = false ∧ t.inp = p ∧ t.stimulus = rest

/-- The machine of 32 operations and the Controller of the document, which chooses by the ControlSignals alone, are the
same machine (42_controller_step.md R183, steps (1) to (4); 41_shift_register_path.md R145, R147). -/
def Obligations.StepIsTheController : Prop :=
  ∀ (s : State) (p : Inputs) (rest : List Event), s.stimulus = .edge p :: rest → s.resetAsserted = false →
    step s = .next (controllerStep p { s with inp := p, stimulus := rest })

/-- The next State depends only on the current State and `tms` (40_tap_state_machine.md R101): two machines that agree on
these two agree on the next State, whatever their registers, `tdo`, `tdi`, capture inputs and pasts are. -/
def Obligations.NoHiddenHistory : Prop :=
  ∀ (s s' : State) (p p' : Inputs) (rest rest' : List Event),
    s.stimulus = .edge p :: rest → s'.stimulus = .edge p' :: rest' →
    s.resetAsserted = false → s'.resetAsserted = false → s.state = s'.state → p.tms = p'.tms →
    ∃ t t', step s = .next t ∧ step s' = .next t' ∧ t.state = t'.state

/-- `state` changes only at an active edge with reset deasserted or by the asynchronous reset, and at every such edge
exactly one of the 32 operations applies (40_tap_state_machine.md R102). -/
def Obligations.StateChangesOnlyAtEdgeOrReset : Prop :=
  (∀ s t : State, step s = .next t → t.state ≠ s.state →
    (∃ p rest, s.stimulus = .edge p :: rest ∧ s.resetAsserted = false ∧ t.state = next s.state p.tms) ∨
    (∃ rest, s.stimulus = .assertReset :: rest ∧ t.state = .testLogicReset)) ∧
  ∀ (s : State) (p : Inputs) (rest : List Event), s.stimulus = .edge p :: rest → s.resetAsserted = false →
    ∃ i : Instr, step s = exec i { s with inp := p, stimulus := rest } ∧
      ∀ j : Instr, j.home = s.state ∧ j.tms = p.tms ∧ j.tdi = p.tdi ↔ j = i

/-- "register contents change only during CAPTURE, SHIFT, or UPDATE phases of their respective path" and in a Shift state
exactly one bit enters and one exits (41_shift_register_path.md R148): a shift stage changes only at a capture or shift
edge of its own path, a committed stage only at an update edge of its own path, under every move of the environment. Which
end the bit leaves and which it enters is not R148's: the last clause follows 20_memory.md R52 (decision D3, log 4). -/
def Obligations.RegistersChangeOnlyInTheirPhases : Prop :=
  (∀ s t : State, step s = .next t →
    (t.irSh ≠ s.irSh → ∃ p rest, s.stimulus = .edge p :: rest ∧ s.resetAsserted = false ∧
      (s.state = .captureIr ∨ s.state = .shiftIr)) ∧
    (t.irHold ≠ s.irHold → ∃ p rest, s.stimulus = .edge p :: rest ∧ s.resetAsserted = false ∧ s.state = .updateIr) ∧
    (t.drSh ≠ s.drSh → ∃ p rest, s.stimulus = .edge p :: rest ∧ s.resetAsserted = false ∧
      (s.state = .captureDr ∨ s.state = .shiftDr)) ∧
    (t.drHold ≠ s.drHold → ∃ p rest, s.stimulus = .edge p :: rest ∧ s.resetAsserted = false ∧ s.state = .updateDr)) ∧
  ∀ (s : State) (p : Inputs) (rest : List Event), s.stimulus = .edge p :: rest → s.resetAsserted = false →
    (s.state = .shiftIr → s.irSh ≠ [] → ∃ t, step s = .next t ∧ t.tdo :: t.irSh = s.irSh ++ [p.tdi]) ∧
    (s.state = .shiftDr → s.drSh ≠ [] → ∃ t, step s = .next t ∧ t.tdo :: t.drSh = s.drSh ++ [p.tdi])

/-- The IR and the DR are independent (10_state.md R28): an edge of one path leaves both stages of the other, an edge on
neither path leaves all four, and the committed IR value does not select, resize or gate the DR. -/
def Obligations.RegistersAreIndependent : Prop :=
  ∀ (s : State) (p : Inputs) (rest : List Event), s.stimulus = .edge p :: rest → s.resetAsserted = false →
    ∃ t, step s = .next t ∧
      (TapState.path s.state = some .dr → t.irSh = s.irSh ∧ t.irHold = s.irHold) ∧
      (TapState.path s.state = some .ir → t.drSh = s.drSh ∧ t.drHold = s.drHold) ∧
      (TapState.path s.state = none →
        t.irSh = s.irSh ∧ t.irHold = s.irHold ∧ t.drSh = s.drSh ∧ t.drHold = s.drHold) ∧
      ∀ h : Bits, ∃ t', step { s with irHold := h } = .next t' ∧
        { t'.record with irHold := t.irHold } = t.record

/-- What an edge ignores (30_encoding.md R78, R79; 41_shift_register_path.md R169): `tdi` outside the Shift States, each
capture input outside its Capture State. Two edges that agree on `tms` and on what is read give the same record. -/
def Obligations.UnreadInputsAreIgnored : Prop :=
  ∀ (s : State) (p p' : Inputs) (rest rest' : List Event), s.stimulus = .edge p :: rest → s.resetAsserted = false →
    p.tms = p'.tms → (s.state = .shiftDr ∨ s.state = .shiftIr → p.tdi = p'.tdi) →
    (s.state = .captureDr → p.drCapIn = p'.drCapIn) → (s.state = .captureIr → p.irCapIn = p'.irCapIn) →
    ∃ t t', step s = .next t ∧ step { s with stimulus := .edge p' :: rest' } = .next t' ∧ t.record = t'.record

/-- `tms` of an edge never influences the action of that same edge (42_controller_step.md R184 (e)): it decides the
successor State and nothing else of the record. -/
def Obligations.TmsDecidesOnlyTheSuccessor : Prop :=
  ∀ (s : State) (p : Inputs) (rest : List Event) (b : Bool), s.stimulus = .edge p :: rest → s.resetAsserted = false →
    ∃ t t', step s = .next t ∧ step { s with stimulus := .edge { p with tms := b } :: rest } = .next t' ∧
      t'.record = { t.record with state := next s.state b }

/-! ### Reset -/

/-- AssertReset forces `state` and `tdo` and writes no register, in any State, with any inputs, any number of times;
DeassertReset changes nothing in `σ` (70_reset_and_hazards.md R232, R234; decisions D6, D8, log 2, log 6). -/
def Obligations.ResetEvents : Prop :=
  (∀ (s : State) (rest : List Event), s.stimulus = .assertReset :: rest →
    step s = .next { s with state := .testLogicReset, tdo := false, resetAsserted := true, stimulus := rest }) ∧
  (∀ (s : State) (rest : List Event), s.stimulus = .deassertReset :: rest →
    step s = .next { s with resetAsserted := false, stimulus := rest }) ∧
  ∀ (s : State) (rest : List Event), s.stimulus = .assertReset :: .assertReset :: rest →
    ∃ t u, runsTo 1 s t ∧ runsTo 2 s u ∧ u.record = t.record ∧ u.resetAsserted = t.resetAsserted

/-- While reset is asserted, any number of active edges, with any inputs, performs no step: TestLogicReset is held and no
other component changes (70_reset_and_hazards.md R233, 42_controller_step.md R186; decision D12, log 7). -/
def Obligations.EdgesUnderResetDoNothing : Prop :=
  ∀ (ps : List Inputs) (s : State) (rest : List Event), s.stimulus = edges ps ++ rest → s.resetAsserted = true →
    s.resetHeld = true →
    ∃ t, runsTo ps.length s t ∧ t.record = s.record ∧ t.state = .testLogicReset ∧ t.resetAsserted = true ∧
      t.stimulus = rest

/-- Reset convergence (40_tap_state_machine.md R137): five or more edges with `tms = 1` lead from every State to
TestLogicReset, and four do not suffice from the six States that need five. -/
def Obligations.FiveTmsOnesReset : Prop :=
  ∀ (ps : List Inputs) (s : State) (rest : List Event), s.stimulus = edges ps ++ rest → s.resetAsserted = false →
    (∀ p ∈ ps, p.tms = true) →
    (5 ≤ ps.length → ∃ t, runsTo ps.length s t ∧ t.state = .testLogicReset ∧ t.stimulus = rest) ∧
    (ps.length = 4 → s.state ∈ [TapState.captureDr, .shiftDr, .pauseDr, .captureIr, .shiftIr, .pauseIr] →
      ∃ t, runsTo 4 s t ∧ t.state = .selectIrScan)

/-- The `tms = 1` reset is not free of side effects (70_reset_and_hazards.md R244, the table): what five edges with
`tms = 1` do to every register stage and to `tdo`, from each start State (direction of the one shift: decision D3, log 4). -/
def Obligations.TmsResetSideEffects : Prop :=
  ∀ (s : State) (a b c d e : Inputs) (rest : List Event), s.stimulus = edges [a, b, c, d, e] ++ rest →
    s.resetAsserted = false → (∀ p ∈ [a, b, c, d, e], p.tms = true) →
    ∃ t, runsTo 5 s t ∧ t.state = .testLogicReset ∧
      t.drSh = (if s.state = .captureDr then a.drCapIn
        else if s.state = .shiftDr then s.drSh.drop 1 ++ [a.tdi] else s.drSh) ∧
      t.drHold = (if s.state ∈ [TapState.captureDr, .shiftDr, .exit1Dr, .pauseDr, .exit2Dr, .updateDr] then t.drSh
        else s.drHold) ∧
      t.irSh = (if s.state = .captureIr then a.irCapIn
        else if s.state = .shiftIr then s.irSh.drop 1 ++ [a.tdi] else s.irSh) ∧
      t.irHold = (if s.state ∈ [TapState.captureIr, .shiftIr, .exit1Ir, .pauseIr, .exit2Ir, .updateIr] then t.irSh
        else s.irHold) ∧
      t.tdo = (if s.state = .shiftDr then s.drSh.getD 0 false
        else if s.state = .shiftIr then s.irSh.getD 0 false else s.tdo)

/-- No unspecified power-up bit of a shift stage ever reaches an output (70_reset_and_hazards.md R238 (b),
95_test_vectors.md V-41-10): two blocks that power up with different shift stages show the same outputs after every
number of moves of the same environment, resets included. -/
def Obligations.PowerUpShiftStagesNeverSeen : Prop :=
  ∀ (a a' b c c' d : Bits) (p : Inputs) (es : List Event) (k : Nat),
    ∃ t t', runsTo k (State.powerUp a b c d p es) t ∧ runsTo k (State.powerUp a' b c' d p es) t' ∧
      t.outputs = t'.outputs

/-- The step lemma behind `Obligations.PowerUpShiftStagesNeverSeen` (70_reset_and_hazards.md R238 (b)): two blocks that
agree on all but a shift stage not in use show the same outputs, both go on under every move of the same environment, and
still agree after it. -/
def Obligations.UnusedShiftStagesStayUnseen : Prop :=
  ∀ s t : State, s.agreesWith t →
    s.outputs = t.outputs ∧ ∃ s' t', step s = .next s' ∧ step t = .next t' ∧ s'.agreesWith t'

/-- With no move of the environment left, nothing changes, for any number of steps (60_exceptions.md R213, 10_state.md R39;
that the model's step then answers the same state is log 9). -/
def Obligations.NoStimulusNoChange : Prop :=
  ∀ (s : State) (k : Nat), s.stimulus = [] → runsTo k s s

/-! ### Runs of edges -/

/-- Idempotence (40_tap_state_machine.md R140): any number of `tms = 0` edges from RunTestIdle leaves the whole record; and
`TLR/1`, `RTI/0`, `PDR/0`, `PIR/0` are the only operations that leave all of `σ` unchanged for every `σ`. -/
def Obligations.IdleKeepsTheRecord : Prop :=
  (∀ (ps : List Inputs) (s : State) (rest : List Event), s.stimulus = edges ps ++ rest → s.resetAsserted = false →
    s.state = .runTestIdle → (∀ p ∈ ps, p.tms = false) →
    ∃ t, runsTo ps.length s t ∧ t.record = s.record ∧ t.stimulus = rest) ∧
  ∀ i : Instr, (∀ s : State, s.selects i.home = true → ∃ t, exec i s = .next t ∧ t.record = s.record) ↔
    i ∈ [Instr.tlr1 i.tdi, .rti0 i.tdi, .pdr0 i.tdi, .pir0 i.tdi]

/-- Pausing is transparent (41_shift_register_path.md R170): Exit1, any number of Pause edges, Exit2 and back to Shift
changes no register and not `tdo`. -/
def Obligations.PauseIsTransparent : Prop :=
  ∀ (n : Nat) (cap : Inputs) (s : State) (rest : List Event), 1 ≤ n → s.stimulus = edges (pauseEdges cap n) ++ rest →
    s.resetAsserted = false → s.state = .exit1Dr ∨ s.state = .exit1Ir →
    ∃ t, runsTo (n + 2) s t ∧ t.stimulus = rest ∧
      t.record = { s.record with state := if s.state = .exit1Dr then .shiftDr else .shiftIr }

/-- First-in first-out and content laws of the IR (20_memory.md R53, 41_shift_register_path.md R166, R167; decision D3,
log 4), over any sequence of edges, pauses included: with `c` the stage at its start and `d` the bits of its shift edges,
the stage is `c ++ d` without its first `d.length` bits, and `tdo` shows the latest bit that fell out. -/
def Obligations.IrFifoAndContent : Prop :=
  ∀ (ps : List Inputs) (s : State) (rest : List Event), s.stimulus = edges ps ++ rest → s.resetAsserted = false →
    s.irSh ≠ [] → avoids [.captureIr] s.state ps = true →
    ∃ t, runsTo ps.length s t ∧ t.stimulus = rest ∧ t.state = walk s.state ps ∧ t.irSh.length = s.irSh.length ∧
      t.irSh = (s.irSh ++ bitsAt .shiftIr s.state ps).drop (bitsAt .shiftIr s.state ps).length ∧
      (avoids [.shiftDr] s.state ps = true →
        t.tdo = (if bitsAt .shiftIr s.state ps = [] then s.tdo
          else (s.irSh ++ bitsAt .shiftIr s.state ps).getD ((bitsAt .shiftIr s.state ps).length - 1) false))

/-- First-in first-out and content laws of the DR (20_memory.md R53, 41_shift_register_path.md R166, R167; decision D3,
log 4), in the form of `Obligations.IrFifoAndContent`. -/
def Obligations.DrFifoAndContent : Prop :=
  ∀ (ps : List Inputs) (s : State) (rest : List Event), s.stimulus = edges ps ++ rest → s.resetAsserted = false →
    s.drSh ≠ [] → avoids [.captureDr] s.state ps = true →
    ∃ t, runsTo ps.length s t ∧ t.stimulus = rest ∧ t.state = walk s.state ps ∧ t.drSh.length = s.drSh.length ∧
      t.drSh = (s.drSh ++ bitsAt .shiftDr s.state ps).drop (bitsAt .shiftDr s.state ps).length ∧
      (avoids [.shiftIr] s.state ps = true →
        t.tdo = (if bitsAt .shiftDr s.state ps = [] then s.tdo
          else (s.drSh ++ bitsAt .shiftDr s.state ps).getD ((bitsAt .shiftDr s.state ps).length - 1) false))

/-- `IRSCAN b_1..b_k` (30_encoding.md R81): from RunTestIdle and back in `k + 6` edges, the IR commits the content law's
value, `tdo` shows the k-th bit out, and the DR keeps both stages (decision D3, log 4). -/
def Obligations.IrScanCommits : Prop :=
  ∀ (bs : List Bool) (cap : Inputs) (s : State) (rest : List Event), bs ≠ [] → cap.irCapIn ≠ [] →
    s.stimulus = edges (irScan cap bs) ++ rest → s.resetAsserted = false → s.state = .runTestIdle →
    ∃ t, runsTo (bs.length + 6) s t ∧ t.stimulus = rest ∧
      t.record =
        { s.record with
          irSh := (cap.irCapIn ++ bs).drop bs.length
          irHold := (cap.irCapIn ++ bs).drop bs.length
          tdo := (cap.irCapIn ++ bs).getD (bs.length - 1) false }

/-- `DRSCAN b_1..b_k` (30_encoding.md R81): the same for the DR, in `k + 5` edges (decision D3, log 4). -/
def Obligations.DrScanCommits : Prop :=
  ∀ (bs : List Bool) (cap : Inputs) (s : State) (rest : List Event), bs ≠ [] → cap.drCapIn ≠ [] →
    s.stimulus = edges (drScan cap bs) ++ rest → s.resetAsserted = false → s.state = .runTestIdle →
    ∃ t, runsTo (bs.length + 5) s t ∧ t.stimulus = rest ∧
      t.record =
        { s.record with
          drSh := (cap.drCapIn ++ bs).drop bs.length
          drHold := (cap.drCapIn ++ bs).drop bs.length
          tdo := (cap.drCapIn ++ bs).getD (bs.length - 1) false }

/-- The zero-bit scan (70_reset_and_hazards.md R243): Select, Capture, Exit1, Update with `tms` = 0, 1, 1 commits the
captured value at the edge that leaves Update; `tdo` and the other register keep their values. -/
def Obligations.ZeroBitScanCommitsCapture : Prop :=
  ∀ (s : State) (a b c d : Inputs) (rest : List Event), s.stimulus = edges [a, b, c, d] ++ rest →
    s.resetAsserted = false → a.tms = false → b.tms = true → c.tms = true →
    (s.state = .selectDrScan → ∃ t, runsTo 4 s t ∧ t.stimulus = rest ∧
      t.record = { s.record with state := next .updateDr d.tms, drSh := b.drCapIn, drHold := b.drCapIn }) ∧
    (s.state = .selectIrScan → ∃ t, runsTo 4 s t ∧ t.stimulus = rest ∧
      t.record = { s.record with state := next .updateIr d.tms, irSh := b.irCapIn, irHold := b.irCapIn })

/-! ### The software reading of the interface -/

/-- The software call (60_exceptions.md R201, R205; decisions D13, D14, log 11): a `tms` that is no bit is reported, else a
`tdi` that is no bit, in every State; a well-formed call goes on, as the active edge with those bits. That a malformed call
is reported while reset is asserted too is the model's choice (log 19). -/
def Obligations.CallChecksItsArguments : Prop :=
  ∀ (m d : Nat) (ir dr : Bits) (s : State),
    (1 < m → s.call m d ir dr = .fault (.invalidSignal .tms)) ∧
    (m ≤ 1 → 1 < d → s.call m d ir dr = .fault (.invalidSignal .tdi)) ∧
    (m ≤ 1 → d ≤ 1 → ∃ t, s.call m d ir dr = .next t ∧
      step { s with stimulus := .edge { tms := m == 1, tdi := d == 1, irCapIn := ir, drCapIn := dr } :: s.stimulus }
        = .next t)
end

