-- ==== Sys2Proof/Laws/State.lean ====
section
/-! SUPPORT. One lemma per field per named update of the state, each true by unfolding, so that no proof unfolds one. -/

namespace Sys2Proof.Machine

@[simp] theorem State.goTo_state (q : TapState) (s : State) : (s.goTo q).state = q := rfl
@[simp] theorem State.goTo_irSh (q : TapState) (s : State) : (s.goTo q).irSh = s.irSh := rfl
@[simp] theorem State.goTo_irHold (q : TapState) (s : State) : (s.goTo q).irHold = s.irHold := rfl
@[simp] theorem State.goTo_drSh (q : TapState) (s : State) : (s.goTo q).drSh = s.drSh := rfl
@[simp] theorem State.goTo_drHold (q : TapState) (s : State) : (s.goTo q).drHold = s.drHold := rfl
@[simp] theorem State.goTo_tdo (q : TapState) (s : State) : (s.goTo q).tdo = s.tdo := rfl
@[simp] theorem State.goTo_resetAsserted (q : TapState) (s : State) : (s.goTo q).resetAsserted = s.resetAsserted := rfl
@[simp] theorem State.goTo_inp (q : TapState) (s : State) : (s.goTo q).inp = s.inp := rfl
@[simp] theorem State.goTo_stimulus (q : TapState) (s : State) : (s.goTo q).stimulus = s.stimulus := rfl

@[simp] theorem State.present_state (p : Inputs) (s : State) : (s.present p).state = s.state := rfl
@[simp] theorem State.present_irSh (p : Inputs) (s : State) : (s.present p).irSh = s.irSh := rfl
@[simp] theorem State.present_irHold (p : Inputs) (s : State) : (s.present p).irHold = s.irHold := rfl
@[simp] theorem State.present_drSh (p : Inputs) (s : State) : (s.present p).drSh = s.drSh := rfl
@[simp] theorem State.present_drHold (p : Inputs) (s : State) : (s.present p).drHold = s.drHold := rfl
@[simp] theorem State.present_tdo (p : Inputs) (s : State) : (s.present p).tdo = s.tdo := rfl
@[simp] theorem State.present_resetAsserted (p : Inputs) (s : State) : (s.present p).resetAsserted = s.resetAsserted := rfl
@[simp] theorem State.present_inp (p : Inputs) (s : State) : (s.present p).inp = p := rfl
@[simp] theorem State.present_stimulus (p : Inputs) (s : State) : (s.present p).stimulus = s.stimulus := rfl

@[simp] theorem State.hold_state (s : State) : (s.hold).state = s.state := rfl
@[simp] theorem State.hold_irSh (s : State) : (s.hold).irSh = s.irSh := rfl
@[simp] theorem State.hold_irHold (s : State) : (s.hold).irHold = s.irHold := rfl
@[simp] theorem State.hold_drSh (s : State) : (s.hold).drSh = s.drSh := rfl
@[simp] theorem State.hold_drHold (s : State) : (s.hold).drHold = s.drHold := rfl
@[simp] theorem State.hold_tdo (s : State) : (s.hold).tdo = s.tdo := rfl
@[simp] theorem State.hold_resetAsserted (s : State) : (s.hold).resetAsserted = s.resetAsserted := rfl
@[simp] theorem State.hold_inp (s : State) : (s.hold).inp = s.inp := rfl
@[simp] theorem State.hold_stimulus (s : State) : (s.hold).stimulus = s.stimulus := rfl

@[simp] theorem State.capture_dr_state (s : State) : (s.capture .dr).state = s.state := rfl
@[simp] theorem State.capture_dr_irSh (s : State) : (s.capture .dr).irSh = s.irSh := rfl
@[simp] theorem State.capture_dr_irHold (s : State) : (s.capture .dr).irHold = s.irHold := rfl
@[simp] theorem State.capture_dr_drSh (s : State) : (s.capture .dr).drSh = s.inp.drCapIn := rfl
@[simp] theorem State.capture_dr_drHold (s : State) : (s.capture .dr).drHold = s.drHold := rfl
@[simp] theorem State.capture_dr_tdo (s : State) : (s.capture .dr).tdo = s.tdo := rfl
@[simp] theorem State.capture_dr_resetAsserted (s : State) : (s.capture .dr).resetAsserted = s.resetAsserted := rfl
@[simp] theorem State.capture_dr_inp (s : State) : (s.capture .dr).inp = s.inp := rfl
@[simp] theorem State.capture_dr_stimulus (s : State) : (s.capture .dr).stimulus = s.stimulus := rfl

@[simp] theorem State.capture_ir_state (s : State) : (s.capture .ir).state = s.state := rfl
@[simp] theorem State.capture_ir_irSh (s : State) : (s.capture .ir).irSh = s.inp.irCapIn := rfl
@[simp] theorem State.capture_ir_irHold (s : State) : (s.capture .ir).irHold = s.irHold := rfl
@[simp] theorem State.capture_ir_drSh (s : State) : (s.capture .ir).drSh = s.drSh := rfl
@[simp] theorem State.capture_ir_drHold (s : State) : (s.capture .ir).drHold = s.drHold := rfl
@[simp] theorem State.capture_ir_tdo (s : State) : (s.capture .ir).tdo = s.tdo := rfl
@[simp] theorem State.capture_ir_resetAsserted (s : State) : (s.capture .ir).resetAsserted = s.resetAsserted := rfl
@[simp] theorem State.capture_ir_inp (s : State) : (s.capture .ir).inp = s.inp := rfl
@[simp] theorem State.capture_ir_stimulus (s : State) : (s.capture .ir).stimulus = s.stimulus := rfl

@[simp] theorem State.shift_dr_state (b : Bool) (s : State) : (s.shift .dr b).state = s.state := rfl
@[simp] theorem State.shift_dr_irSh (b : Bool) (s : State) : (s.shift .dr b).irSh = s.irSh := rfl
@[simp] theorem State.shift_dr_irHold (b : Bool) (s : State) : (s.shift .dr b).irHold = s.irHold := rfl
@[simp] theorem State.shift_dr_drSh (b : Bool) (s : State) : (s.shift .dr b).drSh = shiftIn b s.drSh := rfl
@[simp] theorem State.shift_dr_drHold (b : Bool) (s : State) : (s.shift .dr b).drHold = s.drHold := rfl
@[simp] theorem State.shift_dr_tdo (b : Bool) (s : State) : (s.shift .dr b).tdo = shiftOut s.drSh := rfl
@[simp] theorem State.shift_dr_resetAsserted (b : Bool) (s : State) : (s.shift .dr b).resetAsserted = s.resetAsserted := rfl
@[simp] theorem State.shift_dr_inp (b : Bool) (s : State) : (s.shift .dr b).inp = s.inp := rfl
@[simp] theorem State.shift_dr_stimulus (b : Bool) (s : State) : (s.shift .dr b).stimulus = s.stimulus := rfl

@[simp] theorem State.shift_ir_state (b : Bool) (s : State) : (s.shift .ir b).state = s.state := rfl
@[simp] theorem State.shift_ir_irSh (b : Bool) (s : State) : (s.shift .ir b).irSh = shiftIn b s.irSh := rfl
@[simp] theorem State.shift_ir_irHold (b : Bool) (s : State) : (s.shift .ir b).irHold = s.irHold := rfl
@[simp] theorem State.shift_ir_drSh (b : Bool) (s : State) : (s.shift .ir b).drSh = s.drSh := rfl
@[simp] theorem State.shift_ir_drHold (b : Bool) (s : State) : (s.shift .ir b).drHold = s.drHold := rfl
@[simp] theorem State.shift_ir_tdo (b : Bool) (s : State) : (s.shift .ir b).tdo = shiftOut s.irSh := rfl
@[simp] theorem State.shift_ir_resetAsserted (b : Bool) (s : State) : (s.shift .ir b).resetAsserted = s.resetAsserted := rfl
@[simp] theorem State.shift_ir_inp (b : Bool) (s : State) : (s.shift .ir b).inp = s.inp := rfl
@[simp] theorem State.shift_ir_stimulus (b : Bool) (s : State) : (s.shift .ir b).stimulus = s.stimulus := rfl

@[simp] theorem State.update_dr_state (s : State) : (s.update .dr).state = s.state := rfl
@[simp] theorem State.update_dr_irSh (s : State) : (s.update .dr).irSh = s.irSh := rfl
@[simp] theorem State.update_dr_irHold (s : State) : (s.update .dr).irHold = s.irHold := rfl
@[simp] theorem State.update_dr_drSh (s : State) : (s.update .dr).drSh = s.drSh := rfl
@[simp] theorem State.update_dr_drHold (s : State) : (s.update .dr).drHold = s.drSh := rfl
@[simp] theorem State.update_dr_tdo (s : State) : (s.update .dr).tdo = s.tdo := rfl
@[simp] theorem State.update_dr_resetAsserted (s : State) : (s.update .dr).resetAsserted = s.resetAsserted := rfl
@[simp] theorem State.update_dr_inp (s : State) : (s.update .dr).inp = s.inp := rfl
@[simp] theorem State.update_dr_stimulus (s : State) : (s.update .dr).stimulus = s.stimulus := rfl

@[simp] theorem State.update_ir_state (s : State) : (s.update .ir).state = s.state := rfl
@[simp] theorem State.update_ir_irSh (s : State) : (s.update .ir).irSh = s.irSh := rfl
@[simp] theorem State.update_ir_irHold (s : State) : (s.update .ir).irHold = s.irSh := rfl
@[simp] theorem State.update_ir_drSh (s : State) : (s.update .ir).drSh = s.drSh := rfl
@[simp] theorem State.update_ir_drHold (s : State) : (s.update .ir).drHold = s.drHold := rfl
@[simp] theorem State.update_ir_tdo (s : State) : (s.update .ir).tdo = s.tdo := rfl
@[simp] theorem State.update_ir_resetAsserted (s : State) : (s.update .ir).resetAsserted = s.resetAsserted := rfl
@[simp] theorem State.update_ir_inp (s : State) : (s.update .ir).inp = s.inp := rfl
@[simp] theorem State.update_ir_stimulus (s : State) : (s.update .ir).stimulus = s.stimulus := rfl

@[simp] theorem State.assertReset_state (s : State) : (s.assertReset).state = .testLogicReset := rfl
@[simp] theorem State.assertReset_irSh (s : State) : (s.assertReset).irSh = s.irSh := rfl
@[simp] theorem State.assertReset_irHold (s : State) : (s.assertReset).irHold = s.irHold := rfl
@[simp] theorem State.assertReset_drSh (s : State) : (s.assertReset).drSh = s.drSh := rfl
@[simp] theorem State.assertReset_drHold (s : State) : (s.assertReset).drHold = s.drHold := rfl
@[simp] theorem State.assertReset_tdo (s : State) : (s.assertReset).tdo = false := rfl
@[simp] theorem State.assertReset_resetAsserted (s : State) : (s.assertReset).resetAsserted = true := rfl
@[simp] theorem State.assertReset_inp (s : State) : (s.assertReset).inp = s.inp := rfl
@[simp] theorem State.assertReset_stimulus (s : State) : (s.assertReset).stimulus = s.stimulus := rfl

@[simp] theorem State.deassertReset_state (s : State) : (s.deassertReset).state = s.state := rfl
@[simp] theorem State.deassertReset_irSh (s : State) : (s.deassertReset).irSh = s.irSh := rfl
@[simp] theorem State.deassertReset_irHold (s : State) : (s.deassertReset).irHold = s.irHold := rfl
@[simp] theorem State.deassertReset_drSh (s : State) : (s.deassertReset).drSh = s.drSh := rfl
@[simp] theorem State.deassertReset_drHold (s : State) : (s.deassertReset).drHold = s.drHold := rfl
@[simp] theorem State.deassertReset_tdo (s : State) : (s.deassertReset).tdo = s.tdo := rfl
@[simp] theorem State.deassertReset_resetAsserted (s : State) : (s.deassertReset).resetAsserted = false := rfl
@[simp] theorem State.deassertReset_inp (s : State) : (s.deassertReset).inp = s.inp := rfl
@[simp] theorem State.deassertReset_stimulus (s : State) : (s.deassertReset).stimulus = s.stimulus := rfl

@[simp] theorem State.powerUp_state (a b c d : Bits) (p : Inputs) (es : List Event) : (State.powerUp a b c d p es).state = .testLogicReset := rfl
@[simp] theorem State.powerUp_irSh (a b c d : Bits) (p : Inputs) (es : List Event) : (State.powerUp a b c d p es).irSh = a := rfl
@[simp] theorem State.powerUp_irHold (a b c d : Bits) (p : Inputs) (es : List Event) : (State.powerUp a b c d p es).irHold = b := rfl
@[simp] theorem State.powerUp_drSh (a b c d : Bits) (p : Inputs) (es : List Event) : (State.powerUp a b c d p es).drSh = c := rfl
@[simp] theorem State.powerUp_drHold (a b c d : Bits) (p : Inputs) (es : List Event) : (State.powerUp a b c d p es).drHold = d := rfl
@[simp] theorem State.powerUp_tdo (a b c d : Bits) (p : Inputs) (es : List Event) : (State.powerUp a b c d p es).tdo = false := rfl
@[simp] theorem State.powerUp_resetAsserted (a b c d : Bits) (p : Inputs) (es : List Event) : (State.powerUp a b c d p es).resetAsserted = false := rfl
@[simp] theorem State.powerUp_inp (a b c d : Bits) (p : Inputs) (es : List Event) : (State.powerUp a b c d p es).inp = p := rfl
@[simp] theorem State.powerUp_stimulus (a b c d : Bits) (p : Inputs) (es : List Event) : (State.powerUp a b c d p es).stimulus = es := rfl

@[simp] theorem State.record_state (s : State) : s.record.state = s.state := rfl
@[simp] theorem State.record_irSh (s : State) : s.record.irSh = s.irSh := rfl
@[simp] theorem State.record_irHold (s : State) : s.record.irHold = s.irHold := rfl
@[simp] theorem State.record_drSh (s : State) : s.record.drSh = s.drSh := rfl
@[simp] theorem State.record_drHold (s : State) : s.record.drHold = s.drHold := rfl
@[simp] theorem State.record_tdo (s : State) : s.record.tdo = s.tdo := rfl

@[simp] theorem State.outputs_tdo (s : State) : s.outputs.tdo = s.tdo := rfl
@[simp] theorem State.outputs_irOut (s : State) : s.outputs.irOut = s.irHold := rfl
@[simp] theorem State.outputs_drOut (s : State) : s.outputs.drOut = s.drHold := rfl
@[simp] theorem State.outputs_stateOut (s : State) : s.outputs.stateOut = s.state := rfl
@[simp] theorem State.outputs_signals (s : State) : s.outputs.signals = sig s.state := rfl

end Sys2Proof.Machine
end

