-- ==== Sys2Proof/Laws/Ops.lean ====
section
/-! SUPPORT. What each shared operation can do, said once: the serial path, the frame of an operation, one move of the
environment, a run. Cite these instead of unfolding. -/

namespace Sys2Proof.Machine

/-! ### The serial path -/

theorem shiftIn_length {sh : Bits} (tdi : Bool) (h : sh ≠ []) : (shiftIn tdi sh).length = sh.length := by
  cases sh with
  | nil => exact absurd rfl h
  | cons a l => simp [shiftIn]

theorem shiftOut_cons_shiftIn {sh : Bits} (tdi : Bool) (h : sh ≠ []) :
    shiftOut sh :: shiftIn tdi sh = sh ++ [tdi] := by
  cases sh with
  | nil => exact absurd rfl h
  | cons a l => simp [shiftOut, shiftIn]

theorem Bits.lit_length (n v : Nat) : (Bits.lit n v).length = n := by
  induction n generalizing v with
  | zero => rfl
  | succ n ih => simp [Bits.lit, ih]

/-! ### The frame of an operation -/

theorem State.selects_iff {q : TapState} {s : State} :
    s.selects q = true ↔ s.state = q ∧ s.resetAsserted = false := by
  simp [State.selects]

theorem State.perform_eq_next {home succ : TapState} {action : State → State} {s t : State} :
    s.perform home action succ = .next t ↔
      s.state = home ∧ s.resetAsserted = false ∧ t = (action s).goTo succ := by
  rw [← and_assoc, ← State.selects_iff, State.perform]
  cases s.selects home <;> simp [eq_comm]

theorem State.perform_selected {home succ : TapState} {action : State → State} {s : State} (h : s.state = home)
    (hr : s.resetAsserted = false) : s.perform home action succ = .next ((action s).goTo succ) :=
  State.perform_eq_next.mpr ⟨h, hr, rfl⟩

theorem State.perform_unselected {home succ : TapState} {action : State → State} {s : State}
    (h : s.state ≠ home ∨ s.resetAsserted = true) : s.perform home action succ = .refused .notSelected := by
  have hn : ¬ s.selects home = true := by
    rw [State.selects_iff]
    rintro ⟨h1, h2⟩
    rcases h with h | h
    · exact h h1
    · simp [h2] at h
  simp [State.perform, hn]

/-! ### Runs -/

theorem runsTo_zero {s t : State} : runsTo 0 s t ↔ s = t :=
  ⟨fun h => Host.Outcome.next.inj h, fun h => congrArg Host.Outcome.next h⟩

/-- A run of `k + 1` steps of any machine behind the host's interface is one step and a run of `k` steps. -/
theorem core_run_succ (M : Host.Core) (k : Nat) (s t : M.State) :
    M.run (k + 1) s = .next t ↔ ∃ u, M.step s = .next u ∧ M.run k u = .next t := by
  rw [Host.Core.run]
  cases M.step s <;> simp

theorem runsTo_succ {k : Nat} {s t : State} : runsTo (k + 1) s t ↔ ∃ u, step s = .next u ∧ runsTo k u t :=
  core_run_succ Sys2Proof.core k s t

theorem runsTo_add {j k : Nat} {s t u : State} (h : runsTo j s t) (h' : runsTo k t u) : runsTo (j + k) s u := by
  induction j generalizing s with
  | zero => rw [runsTo_zero] at h; subst h; rwa [Nat.zero_add]
  | succ j ih =>
    obtain ⟨v, hv, hr⟩ := runsTo_succ.mp h
    rw [Nat.add_right_comm]
    exact runsTo_succ.mpr ⟨v, hv, ih hr⟩

/-! ### One move of the environment -/

theorem step_idle {s : State} (h : s.stimulus = []) : step s = .next s := by
  simp [step, State.advance, h]

theorem step_assertReset {s : State} {rest : List Event} (h : s.stimulus = .assertReset :: rest) :
    step s = .next (State.assertReset { s with stimulus := rest }) := by
  simp [step, State.advance, State.event, h]

theorem step_deassertReset {s : State} {rest : List Event} (h : s.stimulus = .deassertReset :: rest) :
    step s = .next (State.deassertReset { s with stimulus := rest }) := by
  simp [step, State.advance, State.event, h]

theorem step_edge_under_reset {s : State} {p : Inputs} {rest : List Event} (h : s.stimulus = .edge p :: rest)
    (hr : s.resetAsserted = true) : step s = .next (State.present p { s with stimulus := rest }) := by
  simp [step, State.advance, State.event, State.edge, h, hr]

theorem step_edge {s : State} {p : Inputs} {rest : List Event} (h : s.stimulus = .edge p :: rest)
    (hr : s.resetAsserted = false) :
    step s = exec (select s.state p.tms p.tdi) (State.present p { s with stimulus := rest }) := by
  simp [step, State.advance, State.event, State.edge, h, hr]

/-- Everything a step can do. -/
theorem step_cases {s t : State} (h : step s = .next t) :
    (s.stimulus = [] ∧ t = s) ∨
    (∃ rest, s.stimulus = .assertReset :: rest ∧ t = State.assertReset { s with stimulus := rest }) ∨
    (∃ rest, s.stimulus = .deassertReset :: rest ∧ t = State.deassertReset { s with stimulus := rest }) ∨
    (∃ p rest, s.stimulus = .edge p :: rest ∧ s.resetAsserted = true ∧
      t = State.present p { s with stimulus := rest }) ∨
    (∃ p rest, s.stimulus = .edge p :: rest ∧ s.resetAsserted = false ∧
      exec (select s.state p.tms p.tdi) (State.present p { s with stimulus := rest }) = .next t) := by
  cases hs : s.stimulus with
  | nil =>
    rw [step_idle hs] at h
    exact .inl ⟨rfl, (Host.Outcome.next.inj h).symm⟩
  | cons e rest =>
    cases e with
    | assertReset =>
      rw [step_assertReset hs] at h
      exact .inr (.inl ⟨rest, rfl, (Host.Outcome.next.inj h).symm⟩)
    | deassertReset =>
      rw [step_deassertReset hs] at h
      exact .inr (.inr (.inl ⟨rest, rfl, (Host.Outcome.next.inj h).symm⟩))
    | edge p =>
      by_cases hr : s.resetAsserted = true
      · rw [step_edge_under_reset hs hr] at h
        exact .inr (.inr (.inr (.inl ⟨p, rest, rfl, hr, (Host.Outcome.next.inj h).symm⟩)))
      · rw [Bool.not_eq_true] at hr
        rw [step_edge hs hr] at h
        exact .inr (.inr (.inr (.inr ⟨p, rest, rfl, hr, h⟩)))

end Sys2Proof.Machine
end

