-- ==== Sys2Proof/Laws/Exec.lean ====
section
/-! SUPPORT. The 32 meanings as one: which register action each operation performs, and that it performs it in the one
frame `State.perform`. -/

namespace Sys2Proof.Machine

/-- The register action of an edge by its current State (41_shift_register_path.md R150 to R165). -/
def actionAt (q : TapState) (tdi : Bool) : State → State :=
  match q with
  | .captureDr => State.capture .dr
  | .shiftDr => State.shift .dr tdi
  | .updateDr => State.update .dr
  | .captureIr => State.capture .ir
  | .shiftIr => State.shift .ir tdi
  | .updateIr => State.update .ir
  | _ => State.hold

theorem exec_eq_perform (i : Instr) (s : State) :
    exec i s = s.perform i.home (actionAt i.home i.tdi) (next i.home i.tms) := by
  cases i <;> rfl

@[simp] theorem home_select (q : TapState) (tms tdi : Bool) : (select q tms tdi).home = q := by
  cases q <;> cases tms <;> rfl

@[simp] theorem tms_select (q : TapState) (tms tdi : Bool) : (select q tms tdi).tms = tms := by
  cases q <;> cases tms <;> rfl

@[simp] theorem tdi_select (q : TapState) (tms tdi : Bool) : (select q tms tdi).tdi = tdi := by
  cases q <;> cases tms <;> rfl

@[simp] theorem select_fields (i : Instr) : select i.home i.tms i.tdi = i := by
  cases i <;> rfl

end Sys2Proof.Machine
end

