-- ==== Sys2Proof/Laws/PerInstr.lean ====
section
/-! SUPPORT. Statements about every instruction as syntax, one lemma per constructor. -/

namespace Sys2Proof.Laws

/-- The row of the opcode table and the fields of the operation agree: the step code is made of the index of the current
State, `tms` and `tdi` (30_encoding.md R75). -/
def Fields.Statement (i : Instr) : Prop := encode i = stepCode i.home i.tms i.tdi

theorem Fields.tlr1 (tdi : Bool) : Fields.Statement (.tlr1 tdi) := by cases tdi <;> rfl
theorem Fields.tlr0 (tdi : Bool) : Fields.Statement (.tlr0 tdi) := by cases tdi <;> rfl
theorem Fields.rti1 (tdi : Bool) : Fields.Statement (.rti1 tdi) := by cases tdi <;> rfl
theorem Fields.rti0 (tdi : Bool) : Fields.Statement (.rti0 tdi) := by cases tdi <;> rfl
theorem Fields.sds1 (tdi : Bool) : Fields.Statement (.sds1 tdi) := by cases tdi <;> rfl
theorem Fields.sds0 (tdi : Bool) : Fields.Statement (.sds0 tdi) := by cases tdi <;> rfl
theorem Fields.cdr1 (tdi : Bool) : Fields.Statement (.cdr1 tdi) := by cases tdi <;> rfl
theorem Fields.cdr0 (tdi : Bool) : Fields.Statement (.cdr0 tdi) := by cases tdi <;> rfl
theorem Fields.sdr1 (tdi : Bool) : Fields.Statement (.sdr1 tdi) := by cases tdi <;> rfl
theorem Fields.sdr0 (tdi : Bool) : Fields.Statement (.sdr0 tdi) := by cases tdi <;> rfl
theorem Fields.e1d1 (tdi : Bool) : Fields.Statement (.e1d1 tdi) := by cases tdi <;> rfl
theorem Fields.e1d0 (tdi : Bool) : Fields.Statement (.e1d0 tdi) := by cases tdi <;> rfl
theorem Fields.pdr1 (tdi : Bool) : Fields.Statement (.pdr1 tdi) := by cases tdi <;> rfl
theorem Fields.pdr0 (tdi : Bool) : Fields.Statement (.pdr0 tdi) := by cases tdi <;> rfl
theorem Fields.e2d1 (tdi : Bool) : Fields.Statement (.e2d1 tdi) := by cases tdi <;> rfl
theorem Fields.e2d0 (tdi : Bool) : Fields.Statement (.e2d0 tdi) := by cases tdi <;> rfl
theorem Fields.udr1 (tdi : Bool) : Fields.Statement (.udr1 tdi) := by cases tdi <;> rfl
theorem Fields.udr0 (tdi : Bool) : Fields.Statement (.udr0 tdi) := by cases tdi <;> rfl
theorem Fields.sis1 (tdi : Bool) : Fields.Statement (.sis1 tdi) := by cases tdi <;> rfl
theorem Fields.sis0 (tdi : Bool) : Fields.Statement (.sis0 tdi) := by cases tdi <;> rfl
theorem Fields.cir1 (tdi : Bool) : Fields.Statement (.cir1 tdi) := by cases tdi <;> rfl
theorem Fields.cir0 (tdi : Bool) : Fields.Statement (.cir0 tdi) := by cases tdi <;> rfl
theorem Fields.sir1 (tdi : Bool) : Fields.Statement (.sir1 tdi) := by cases tdi <;> rfl
theorem Fields.sir0 (tdi : Bool) : Fields.Statement (.sir0 tdi) := by cases tdi <;> rfl
theorem Fields.e1i1 (tdi : Bool) : Fields.Statement (.e1i1 tdi) := by cases tdi <;> rfl
theorem Fields.e1i0 (tdi : Bool) : Fields.Statement (.e1i0 tdi) := by cases tdi <;> rfl
theorem Fields.pir1 (tdi : Bool) : Fields.Statement (.pir1 tdi) := by cases tdi <;> rfl
theorem Fields.pir0 (tdi : Bool) : Fields.Statement (.pir0 tdi) := by cases tdi <;> rfl
theorem Fields.e2i1 (tdi : Bool) : Fields.Statement (.e2i1 tdi) := by cases tdi <;> rfl
theorem Fields.e2i0 (tdi : Bool) : Fields.Statement (.e2i0 tdi) := by cases tdi <;> rfl
theorem Fields.uir1 (tdi : Bool) : Fields.Statement (.uir1 tdi) := by cases tdi <;> rfl
theorem Fields.uir0 (tdi : Bool) : Fields.Statement (.uir0 tdi) := by cases tdi <;> rfl

end Sys2Proof.Laws
end

