-- ==== Sys2Proof/Tests/Slice0.lean ====
section
/-! SUPPORT. The session's own tests. Expected values come from spec/: the decode words are the `encoding` column of the
opcode table with both operands, the runs are the rows of V-42-ALL of 95_test_vectors.md, the others name their vector. A
`witness_` theorem shows a concrete state and operands that meet all hypotheses of the statement of that name. -/

namespace Sys2Proof.Tests

open Sys2Proof.Machine

/-- The start record of V-42-ALL, instance with `IR_LEN` 3, `DR_LEN` 2, capture inputs `0b101` and `0b01`. -/
def vec (q : TapState) (es : List Event) : State :=
  { state := q, irSh := Bits.lit 3 0b110, irHold := Bits.lit 3 0b011, drSh := Bits.lit 2 0b10,
    drHold := Bits.lit 2 0b11, tdo := true, resetAsserted := false,
    inp := { tms := false, tdi := false, irCapIn := Bits.lit 3 0b101, drCapIn := Bits.lit 2 0b01 }, stimulus := es }

/-- An edge of that instance. -/
def pin (tms tdi : Bool) : Inputs := pins (vec .testLogicReset []).inp tms tdi

/-- The record after the step that runs the operation of a step code from that start record. -/
def runCode (code : Nat) : Option Record :=
  match step ((vec .testLogicReset []).withFetchWord 8 code) with
  | .next t => some t.record
  | .fault _ => none
  | .refused _ => none

/-- A row of V-42-ALL: the columns from "state after" on. -/
def row (q : TapState) (irSh irHold drSh drHold tdo : Nat) : Option Record :=
  some { state := q, irSh := Bits.lit 3 irSh, irHold := Bits.lit 3 irHold, drSh := Bits.lit 2 drSh,
         drHold := Bits.lit 2 drHold, tdo := tdo == 1 }

/-! ### Decoding: every constructor, from the words of the table -/

theorem test_decode_tlr1 : decodeTableWord 8 0b000010 = some (.tlr1 false) ∧
    decodeTableWord 8 0b000011 = some (.tlr1 true) := by decide
theorem test_decode_tlr0 : decodeTableWord 8 0b000000 = some (.tlr0 false) ∧
    decodeTableWord 8 0b000001 = some (.tlr0 true) := by decide
theorem test_decode_rti1 : decodeTableWord 8 0b000110 = some (.rti1 false) ∧
    decodeTableWord 8 0b000111 = some (.rti1 true) := by decide
theorem test_decode_rti0 : decodeTableWord 8 0b000100 = some (.rti0 false) ∧
    decodeTableWord 8 0b000101 = some (.rti0 true) := by decide
theorem test_decode_sds1 : decodeTableWord 8 0b001010 = some (.sds1 false) ∧
    decodeTableWord 8 0b001011 = some (.sds1 true) := by decide
theorem test_decode_sds0 : decodeTableWord 8 0b001000 = some (.sds0 false) ∧
    decodeTableWord 8 0b001001 = some (.sds0 true) := by decide
theorem test_decode_cdr1 : decodeTableWord 8 0b001110 = some (.cdr1 false) ∧
    decodeTableWord 8 0b001111 = some (.cdr1 true) := by decide
theorem test_decode_cdr0 : decodeTableWord 8 0b001100 = some (.cdr0 false) ∧
    decodeTableWord 8 0b001101 = some (.cdr0 true) := by decide
theorem test_decode_sdr1 : decodeTableWord 8 0b010010 = some (.sdr1 false) ∧
    decodeTableWord 8 0b010011 = some (.sdr1 true) := by decide
theorem test_decode_sdr0 : decodeTableWord 8 0b010000 = some (.sdr0 false) ∧
    decodeTableWord 8 0b010001 = some (.sdr0 true) := by decide
theorem test_decode_e1d1 : decodeTableWord 8 0b010110 = some (.e1d1 false) ∧
    decodeTableWord 8 0b010111 = some (.e1d1 true) := by decide
theorem test_decode_e1d0 : decodeTableWord 8 0b010100 = some (.e1d0 false) ∧
    decodeTableWord 8 0b010101 = some (.e1d0 true) := by decide
theorem test_decode_pdr1 : decodeTableWord 8 0b011010 = some (.pdr1 false) ∧
    decodeTableWord 8 0b011011 = some (.pdr1 true) := by decide
theorem test_decode_pdr0 : decodeTableWord 8 0b011000 = some (.pdr0 false) ∧
    decodeTableWord 8 0b011001 = some (.pdr0 true) := by decide
theorem test_decode_e2d1 : decodeTableWord 8 0b011110 = some (.e2d1 false) ∧
    decodeTableWord 8 0b011111 = some (.e2d1 true) := by decide
theorem test_decode_e2d0 : decodeTableWord 8 0b011100 = some (.e2d0 false) ∧
    decodeTableWord 8 0b011101 = some (.e2d0 true) := by decide
theorem test_decode_udr1 : decodeTableWord 8 0b100010 = some (.udr1 false) ∧
    decodeTableWord 8 0b100011 = some (.udr1 true) := by decide
theorem test_decode_udr0 : decodeTableWord 8 0b100000 = some (.udr0 false) ∧
    decodeTableWord 8 0b100001 = some (.udr0 true) := by decide
theorem test_decode_sis1 : decodeTableWord 8 0b100110 = some (.sis1 false) ∧
    decodeTableWord 8 0b100111 = some (.sis1 true) := by decide
theorem test_decode_sis0 : decodeTableWord 8 0b100100 = some (.sis0 false) ∧
    decodeTableWord 8 0b100101 = some (.sis0 true) := by decide
theorem test_decode_cir1 : decodeTableWord 8 0b101010 = some (.cir1 false) ∧
    decodeTableWord 8 0b101011 = some (.cir1 true) := by decide
theorem test_decode_cir0 : decodeTableWord 8 0b101000 = some (.cir0 false) ∧
    decodeTableWord 8 0b101001 = some (.cir0 true) := by decide
theorem test_decode_sir1 : decodeTableWord 8 0b101110 = some (.sir1 false) ∧
    decodeTableWord 8 0b101111 = some (.sir1 true) := by decide
theorem test_decode_sir0 : decodeTableWord 8 0b101100 = some (.sir0 false) ∧
    decodeTableWord 8 0b101101 = some (.sir0 true) := by decide
theorem test_decode_e1i1 : decodeTableWord 8 0b110010 = some (.e1i1 false) ∧
    decodeTableWord 8 0b110011 = some (.e1i1 true) := by decide
theorem test_decode_e1i0 : decodeTableWord 8 0b110000 = some (.e1i0 false) ∧
    decodeTableWord 8 0b110001 = some (.e1i0 true) := by decide
theorem test_decode_pir1 : decodeTableWord 8 0b110110 = some (.pir1 false) ∧
    decodeTableWord 8 0b110111 = some (.pir1 true) := by decide
theorem test_decode_pir0 : decodeTableWord 8 0b110100 = some (.pir0 false) ∧
    decodeTableWord 8 0b110101 = some (.pir0 true) := by decide
theorem test_decode_e2i1 : decodeTableWord 8 0b111010 = some (.e2i1 false) ∧
    decodeTableWord 8 0b111011 = some (.e2i1 true) := by decide
theorem test_decode_e2i0 : decodeTableWord 8 0b111000 = some (.e2i0 false) ∧
    decodeTableWord 8 0b111001 = some (.e2i0 true) := by decide
theorem test_decode_uir1 : decodeTableWord 8 0b111110 = some (.uir1 false) ∧
    decodeTableWord 8 0b111111 = some (.uir1 true) := by decide
theorem test_decode_uir0 : decodeTableWord 8 0b111100 = some (.uir0 false) ∧
    decodeTableWord 8 0b111101 = some (.uir0 true) := by decide

/-! ### V-42-ALL: one edge of every operation, with `tdi` 0 and 1 -/

theorem test_run_tlr1 : runCode 2 = row .testLogicReset 0b110 0b011 0b10 0b11 1 ∧
    runCode 3 = row .testLogicReset 0b110 0b011 0b10 0b11 1 := by decide
theorem test_run_tlr0 : runCode 0 = row .runTestIdle 0b110 0b011 0b10 0b11 1 ∧
    runCode 1 = row .runTestIdle 0b110 0b011 0b10 0b11 1 := by decide
theorem test_run_rti1 : runCode 6 = row .selectDrScan 0b110 0b011 0b10 0b11 1 ∧
    runCode 7 = row .selectDrScan 0b110 0b011 0b10 0b11 1 := by decide
theorem test_run_rti0 : runCode 4 = row .runTestIdle 0b110 0b011 0b10 0b11 1 ∧
    runCode 5 = row .runTestIdle 0b110 0b011 0b10 0b11 1 := by decide
theorem test_run_sds1 : runCode 10 = row .selectIrScan 0b110 0b011 0b10 0b11 1 ∧
    runCode 11 = row .selectIrScan 0b110 0b011 0b10 0b11 1 := by decide
theorem test_run_sds0 : runCode 8 = row .captureDr 0b110 0b011 0b10 0b11 1 ∧
    runCode 9 = row .captureDr 0b110 0b011 0b10 0b11 1 := by decide
theorem test_run_cdr1 : runCode 14 = row .exit1Dr 0b110 0b011 0b01 0b11 1 ∧
    runCode 15 = row .exit1Dr 0b110 0b011 0b01 0b11 1 := by decide
theorem test_run_cdr0 : runCode 12 = row .shiftDr 0b110 0b011 0b01 0b11 1 ∧
    runCode 13 = row .shiftDr 0b110 0b011 0b01 0b11 1 := by decide
theorem test_run_sdr1 : runCode 18 = row .exit1Dr 0b110 0b011 0b01 0b11 0 ∧
    runCode 19 = row .exit1Dr 0b110 0b011 0b11 0b11 0 := by decide
theorem test_run_sdr0 : runCode 16 = row .shiftDr 0b110 0b011 0b01 0b11 0 ∧
    runCode 17 = row .shiftDr 0b110 0b011 0b11 0b11 0 := by decide
theorem test_run_e1d1 : runCode 22 = row .updateDr 0b110 0b011 0b10 0b11 1 ∧
    runCode 23 = row .updateDr 0b110 0b011 0b10 0b11 1 := by decide
theorem test_run_e1d0 : runCode 20 = row .pauseDr 0b110 0b011 0b10 0b11 1 ∧
    runCode 21 = row .pauseDr 0b110 0b011 0b10 0b11 1 := by decide
theorem test_run_pdr1 : runCode 26 = row .exit2Dr 0b110 0b011 0b10 0b11 1 ∧
    runCode 27 = row .exit2Dr 0b110 0b011 0b10 0b11 1 := by decide
theorem test_run_pdr0 : runCode 24 = row .pauseDr 0b110 0b011 0b10 0b11 1 ∧
    runCode 25 = row .pauseDr 0b110 0b011 0b10 0b11 1 := by decide
theorem test_run_e2d1 : runCode 30 = row .updateDr 0b110 0b011 0b10 0b11 1 ∧
    runCode 31 = row .updateDr 0b110 0b011 0b10 0b11 1 := by decide
theorem test_run_e2d0 : runCode 28 = row .shiftDr 0b110 0b011 0b10 0b11 1 ∧
    runCode 29 = row .shiftDr 0b110 0b011 0b10 0b11 1 := by decide
theorem test_run_udr1 : runCode 34 = row .selectDrScan 0b110 0b011 0b10 0b10 1 ∧
    runCode 35 = row .selectDrScan 0b110 0b011 0b10 0b10 1 := by decide
theorem test_run_udr0 : runCode 32 = row .runTestIdle 0b110 0b011 0b10 0b10 1 ∧
    runCode 33 = row .runTestIdle 0b110 0b011 0b10 0b10 1 := by decide
theorem test_run_sis1 : runCode 38 = row .testLogicReset 0b110 0b011 0b10 0b11 1 ∧
    runCode 39 = row .testLogicReset 0b110 0b011 0b10 0b11 1 := by decide
theorem test_run_sis0 : runCode 36 = row .captureIr 0b110 0b011 0b10 0b11 1 ∧
    runCode 37 = row .captureIr 0b110 0b011 0b10 0b11 1 := by decide
theorem test_run_cir1 : runCode 42 = row .exit1Ir 0b101 0b011 0b10 0b11 1 ∧
    runCode 43 = row .exit1Ir 0b101 0b011 0b10 0b11 1 := by decide
theorem test_run_cir0 : runCode 40 = row .shiftIr 0b101 0b011 0b10 0b11 1 ∧
    runCode 41 = row .shiftIr 0b101 0b011 0b10 0b11 1 := by decide
theorem test_run_sir1 : runCode 46 = row .exit1Ir 0b011 0b011 0b10 0b11 0 ∧
    runCode 47 = row .exit1Ir 0b111 0b011 0b10 0b11 0 := by decide
theorem test_run_sir0 : runCode 44 = row .shiftIr 0b011 0b011 0b10 0b11 0 ∧
    runCode 45 = row .shiftIr 0b111 0b011 0b10 0b11 0 := by decide
theorem test_run_e1i1 : runCode 50 = row .updateIr 0b110 0b011 0b10 0b11 1 ∧
    runCode 51 = row .updateIr 0b110 0b011 0b10 0b11 1 := by decide
theorem test_run_e1i0 : runCode 48 = row .pauseIr 0b110 0b011 0b10 0b11 1 ∧
    runCode 49 = row .pauseIr 0b110 0b011 0b10 0b11 1 := by decide
theorem test_run_pir1 : runCode 54 = row .exit2Ir 0b110 0b011 0b10 0b11 1 ∧
    runCode 55 = row .exit2Ir 0b110 0b011 0b10 0b11 1 := by decide
theorem test_run_pir0 : runCode 52 = row .pauseIr 0b110 0b011 0b10 0b11 1 ∧
    runCode 53 = row .pauseIr 0b110 0b011 0b10 0b11 1 := by decide
theorem test_run_e2i1 : runCode 58 = row .updateIr 0b110 0b011 0b10 0b11 1 ∧
    runCode 59 = row .updateIr 0b110 0b011 0b10 0b11 1 := by decide
theorem test_run_e2i0 : runCode 56 = row .shiftIr 0b110 0b011 0b10 0b11 1 ∧
    runCode 57 = row .shiftIr 0b110 0b011 0b10 0b11 1 := by decide
theorem test_run_uir1 : runCode 62 = row .selectDrScan 0b110 0b110 0b10 0b11 1 ∧
    runCode 63 = row .selectDrScan 0b110 0b110 0b10 0b11 1 := by decide
theorem test_run_uir0 : runCode 60 = row .runTestIdle 0b110 0b110 0b10 0b11 1 ∧
    runCode 61 = row .runTestIdle 0b110 0b110 0b10 0b11 1 := by decide

/-! ### Other vectors -/

/-- V-42-SIG. -/
theorem test_signals :
    sig .testLogicReset = Signals.row 0 0 0 0 0 0 0 ∧
    sig .runTestIdle = Signals.row 0 0 0 0 0 0 0 ∧
    sig .selectDrScan = Signals.row 0 1 0 0 0 0 0 ∧
    sig .captureDr = Signals.row 0 1 1 0 0 0 0 ∧
    sig .shiftDr = Signals.row 0 1 0 1 0 0 0 ∧
    sig .exit1Dr = Signals.row 0 1 0 0 1 0 0 ∧
    sig .pauseDr = Signals.row 0 1 0 0 0 0 1 ∧
    sig .exit2Dr = Signals.row 0 1 0 0 0 0 0 ∧
    sig .updateDr = Signals.row 0 1 0 0 0 1 0 ∧
    sig .selectIrScan = Signals.row 1 0 0 0 0 0 0 ∧
    sig .captureIr = Signals.row 1 0 1 0 0 0 0 ∧
    sig .shiftIr = Signals.row 1 0 0 1 0 0 0 ∧
    sig .exit1Ir = Signals.row 1 0 0 0 1 0 0 ∧
    sig .pauseIr = Signals.row 1 0 0 0 0 0 1 ∧
    sig .exit2Ir = Signals.row 1 0 0 0 0 0 0 ∧
    sig .updateIr = Signals.row 1 0 0 0 0 1 0 := by decide

/-- V-60-1: the malformed calls, the second also in RunTestIdle, where `tdi` would be ignored. -/
theorem test_malformed_calls :
    (match (vec .shiftIr []).call 2 0 [] [] with | .fault e => some e | _ => none) = some (.invalidSignal .tms) ∧
    (match (vec .runTestIdle []).call 0 7 [] [] with | .fault e => some e | _ => none) = some (.invalidSignal .tdi) ∧
    (match (vec .shiftIr []).call 5 9 [] [] with | .fault e => some e | _ => none) = some (.invalidSignal .tms) := by
  decide

/-- V-70-1: the reset in mid-scan forces `state` and `tdo` and leaves every stage. -/
theorem test_async_reset :
    (match step (vec .shiftIr [.assertReset]) with | .next t => some t.record | _ => none) =
      row .testLogicReset 0b110 0b011 0b10 0b11 0 := by decide

/-- V-70-2: an edge with `tms = 0` while reset is asserted does not leave TestLogicReset. -/
theorem test_edge_under_reset :
    (match step { vec .testLogicReset [.edge (pin false true)] with resetAsserted := true } with
      | .next t => some t.record | _ => none) = row .testLogicReset 0b110 0b011 0b10 0b11 1 := by decide

/-- 20_memory.md R52 on REF's IR (41_shift_register_path.md R161, example). -/
theorem test_shift_direction : shiftIn true (Bits.lit 2 0b01) = Bits.lit 2 0b10 ∧ shiftOut (Bits.lit 2 0b01) = true := by
  decide

/-- 20_memory.md R52: "for L = 1 this is sh <- tdi". -/
theorem test_shift_width_one : shiftIn true (Bits.lit 1 0) = Bits.lit 1 1 ∧ shiftOut (Bits.lit 1 1) = true := by decide

/-- 30_encoding.md R81: the lengths and `tms` strings of the scans of two bits and of `PAUSE 1`. -/
theorem test_sequences :
    (irScan (pin false false) [true, false]).map Inputs.tms = [true, true, false, false, false, true, true, false] ∧
    (drScan (pin false false) [true, false]).map Inputs.tms = [true, false, false, false, true, true, false] ∧
    (pauseEdges (pin false false) 1).map Inputs.tms = [false, true, false] ∧
    (tmsReset (pin false false) ++ toIdle (pin false false)).map Inputs.tms = [true, true, true, true, true, false] := by
  decide

/-! ### WellFormed: an ill-formed term for each check -/

theorem test_wf_ir_len : Config.wf { irLen := 0, drLen := 1 } = false := by decide
theorem test_wf_dr_len : Config.wf { irLen := 1, drLen := 0 } = false := by decide
theorem test_wf_ir_capture : Inputs.wf Config.ref { tms := true, tdi := true, irCapIn := [true], drCapIn := [true] } = false := by
  decide
theorem test_wf_dr_capture : Inputs.wf Config.ref { tms := true, tdi := true, irCapIn := [true, true], drCapIn := [] } = false := by
  decide
theorem test_wf_event : Event.wf Config.ref (.edge { tms := true, tdi := true, irCapIn := [], drCapIn := [true] }) = false := by
  decide
theorem test_wf_stimulus : stimulusWf Config.ref [.assertReset, .edge (pin true true)] = false := by decide
theorem test_wf_bit : isBit 2 = false := by decide
theorem test_wf_accepts : Config.ref.wf = true ∧ stimulusWf { irLen := 3, drLen := 2 } [.edge (pin true true), .deassertReset] = true ∧
    isBit 0 = true ∧ isBit 1 = true := by decide

/-! ### Witnesses -/

/-- A State with one edge to come. -/
def one (q : TapState) (tms tdi : Bool) : State := vec q [.edge (pin tms tdi)]

/-- The hypotheses every statement about one active edge shares. -/
theorem one_edge (q : TapState) (tms tdi : Bool) :
    (one q tms tdi).stimulus = .edge (pin tms tdi) :: [] ∧ (one q tms tdi).resetAsserted = false := ⟨rfl, rfl⟩

/-- The state after a step, if there is one. -/
def after (s : State) : State :=
  match step s with
  | .next t => t
  | .fault _ => s
  | .refused _ => s

theorem witness_StepRunsSelectedOperation :
    (one .shiftDr true true).stimulus = .edge (pin true true) :: [] ∧ (one .shiftDr true true).resetAsserted = false ∧
    decodeStim (one .shiftDr true true).state (stimWord (pin true true).tms (pin true true).tdi) = .sdr1 true := by decide

theorem witness_InvariantsAtReset :
    (Config.mk 1 1).wf = true ∧ ([true] : Bits).length = (Config.mk 1 1).irLen ∧ ([true] : Bits).length = (Config.mk 1 1).drLen ∧
    Inputs.wf (Config.mk 1 1) { tms := false, tdi := false, irCapIn := [true], drCapIn := [false] } = true ∧
    stimulusWf (Config.mk 1 1) [.edge { tms := true, tdi := true, irCapIn := [false], drCapIn := [true] }] = true := by decide

theorem witness_StepKeepsWidths :
    (one .shiftDr false true).wf { irLen := 3, drLen := 2 } = true ∧
    step (one .shiftDr false true) = .next (after (one .shiftDr false true)) := ⟨by decide, rfl⟩

theorem witness_StepKeepsWidths_width_one :
    (State.powerUp [true] [false] [true] [true] { tms := false, tdi := false, irCapIn := [true], drCapIn := [false] }
      [.edge { tms := true, tdi := true, irCapIn := [false], drCapIn := [true] }]).wf { irLen := 1, drLen := 1 } = true := by
  decide

theorem witness_StepKeepsResetHeld :
    State.resetHeld { State.reset with resetAsserted := true, stimulus := [.edge (pin false false)] } = true ∧
    step { State.reset with resetAsserted := true, stimulus := [.edge (pin false false)] } =
      .next (after { State.reset with resetAsserted := true, stimulus := [.edge (pin false false)] }) := ⟨by decide, rfl⟩

theorem witness_UpdateVisibleAfterItsEdge :
    (one .updateIr true false).state = .updateIr ∧ (one .updateDr false true).state = .updateDr := ⟨rfl, rfl⟩

theorem witness_TestIdleOperationsRun :
    (vec .testLogicReset []).resetAsserted = false ∧ (vec .testLogicReset []).state = .testLogicReset ∧
    (vec .runTestIdle []).resetAsserted = false ∧ (vec .runTestIdle []).state = .runTestIdle := by decide

theorem witness_DrHoldOperationsRun :
    ∀ q ∈ [TapState.selectDrScan, .exit1Dr, .pauseDr, .exit2Dr], (vec q []).resetAsserted = false ∧ (vec q []).state = q := by
  decide

theorem witness_IrHoldOperationsRun :
    ∀ q ∈ [TapState.selectIrScan, .exit1Ir, .pauseIr, .exit2Ir], (vec q []).resetAsserted = false ∧ (vec q []).state = q := by
  decide

theorem witness_CaptureOperationsRun :
    ∀ q ∈ [TapState.captureDr, .captureIr], (vec q []).resetAsserted = false ∧ (vec q []).state = q := by decide

theorem witness_UpdateOperationsRun :
    ∀ q ∈ [TapState.updateDr, .updateIr], (vec q []).resetAsserted = false ∧ (vec q []).state = q := by decide

theorem witness_ShiftDrOperationsRun :
    (vec .shiftDr []).state = .shiftDr ∧ (vec .shiftDr []).resetAsserted = false ∧ (vec .shiftDr []).drSh ≠ [] ∧
    (0 + 1 < (vec .shiftDr []).drSh.length) ∧
    (Instr.sdr1 true = .sdr1 true ∧ TapState.exit1Dr = .exit1Dr ∨ Instr.sdr1 true = .sdr0 true ∧ TapState.exit1Dr = .shiftDr) ∧
    (Instr.sdr0 true = .sdr1 true ∧ TapState.shiftDr = .exit1Dr ∨ Instr.sdr0 true = .sdr0 true ∧ TapState.shiftDr = .shiftDr) := by
  decide

theorem witness_ShiftIrOperationsRun :
    (vec .shiftIr []).state = .shiftIr ∧ (vec .shiftIr []).resetAsserted = false ∧ (vec .shiftIr []).irSh ≠ [] ∧
    (1 + 1 < (vec .shiftIr []).irSh.length) ∧
    (Instr.sir1 false = .sir1 false ∧ TapState.exit1Ir = .exit1Ir ∨ Instr.sir1 false = .sir0 false ∧ TapState.exit1Ir = .shiftIr) ∧
    (Instr.sir0 false = .sir1 false ∧ TapState.shiftIr = .exit1Ir ∨ Instr.sir0 false = .sir0 false ∧ TapState.shiftIr = .shiftIr) := by
  decide

theorem witness_UnselectedOperationRefused :
    (vec .pauseDr []).state ≠ (Instr.sdr0 true).home ∧
    ({ vec .shiftDr [] with resetAsserted := true } : State).resetAsserted = true := by decide

theorem witness_StepIsThePseudocode :
    (one .captureIr false true).stimulus = .edge (pin false true) :: [] ∧ (one .captureIr false true).resetAsserted = false :=
  one_edge ..

theorem witness_StepIsTheController :
    (one .shiftIr true true).stimulus = .edge (pin true true) :: [] ∧ (one .shiftIr true true).resetAsserted = false :=
  one_edge ..

theorem witness_NoHiddenHistory :
    (one .shiftIr true true).stimulus = .edge (pin true true) :: [] ∧
    ({ one .shiftIr true false with irSh := [false], tdo := false } : State).stimulus = .edge (pin true false) :: [] ∧
    (one .shiftIr true true).resetAsserted = false ∧
    ({ one .shiftIr true false with irSh := [false], tdo := false } : State).resetAsserted = false ∧
    (one .shiftIr true true).state = ({ one .shiftIr true false with irSh := [false], tdo := false } : State).state ∧
    (pin true true).tms = (pin true false).tms := by decide

theorem witness_StateChangesOnlyAtEdgeOrReset :
    step (one .shiftIr true true) = .next (after (one .shiftIr true true)) ∧
    (after (one .shiftIr true true)).state ≠ (one .shiftIr true true).state ∧
    step (vec .shiftIr [.assertReset]) = .next (after (vec .shiftIr [.assertReset])) ∧
    (after (vec .shiftIr [.assertReset])).state ≠ (vec .shiftIr [.assertReset]).state := ⟨rfl, by decide, rfl, by decide⟩

theorem witness_RegistersChangeOnlyInTheirPhases :
    (after (one .captureIr false false)).irSh ≠ (one .captureIr false false).irSh ∧
    (after (one .updateIr false false)).irHold ≠ (one .updateIr false false).irHold ∧
    (after (one .captureDr false false)).drSh ≠ (one .captureDr false false).drSh ∧
    (after (one .updateDr false false)).drHold ≠ (one .updateDr false false).drHold ∧
    (one .shiftIr false true).irSh ≠ [] ∧ (one .shiftDr false true).drSh ≠ [] := by decide

theorem witness_RegistersAreIndependent :
    TapState.path (one .updateDr true true).state = some .dr ∧ TapState.path (one .updateIr true true).state = some .ir ∧
    TapState.path (one .runTestIdle true true).state = none ∧ (one .updateDr true true).resetAsserted = false ∧
    (one .updateDr true true).stimulus = .edge (pin true true) :: [] := by decide

theorem witness_UnreadInputsAreIgnored :
    (one .captureIr true true).stimulus = .edge (pin true true) :: [] ∧ (one .captureIr true true).resetAsserted = false ∧
    (pin true true).tms = ({ pin true false with drCapIn := [] } : Inputs).tms ∧
    (pin true true).irCapIn = ({ pin true false with drCapIn := [] } : Inputs).irCapIn ∧
    (one .captureIr true true).state ≠ .shiftDr ∧ (one .captureIr true true).state ≠ .shiftIr ∧
    (one .captureIr true true).state ≠ .captureDr := by decide

theorem witness_TmsDecidesOnlyTheSuccessor :
    (one .shiftDr true true).stimulus = .edge (pin true true) :: [] ∧ (one .shiftDr true true).resetAsserted = false :=
  one_edge ..

theorem witness_ResetEvents :
    (vec .shiftIr [.assertReset]).stimulus = .assertReset :: [] ∧
    (vec .shiftIr [.deassertReset]).stimulus = .deassertReset :: [] ∧
    (vec .shiftIr [.assertReset, .assertReset]).stimulus = .assertReset :: .assertReset :: [] := by decide

theorem witness_EdgesUnderResetDoNothing :
    ({ State.reset with resetAsserted := true, stimulus := [.edge (pin false true)] } : State).stimulus =
      edges [pin false true] ++ [] ∧
    ({ State.reset with resetAsserted := true, stimulus := [.edge (pin false true)] } : State).resetAsserted = true ∧
    ({ State.reset with resetAsserted := true, stimulus := [.edge (pin false true)] } : State).resetHeld = true := by decide

/-- Both clauses at their boundary: five edges, and four from a State that needs five. -/
theorem witness_FiveTmsOnesReset :
    (vec .pauseIr (edges (tmsReset (pin false false)))).stimulus = edges (tmsReset (pin false false)) ++ [] ∧
    (vec .pauseIr []).resetAsserted = false ∧ (∀ p ∈ tmsReset (pin false false), p.tms = true) ∧
    5 ≤ (tmsReset (pin false false)).length ∧
    (List.replicate 4 (pin true false)).length = 4 ∧ (∀ p ∈ List.replicate 4 (pin true false), p.tms = true) ∧
    (vec .pauseIr []).state ∈ [TapState.captureDr, .shiftDr, .pauseDr, .captureIr, .shiftIr, .pauseIr] := by decide

theorem witness_TmsResetSideEffects :
    (vec .captureDr (edges [pin true false, pin true true, pin true false, pin true true, pin true false])).stimulus =
      edges [pin true false, pin true true, pin true false, pin true true, pin true false] ++ [] ∧
    (vec .captureDr []).resetAsserted = false ∧
    (∀ p ∈ [pin true false, pin true true, pin true false, pin true true, pin true false], p.tms = true) := by decide

theorem witness_NoStimulusNoChange : State.reset.stimulus = [] := rfl

theorem witness_IdleKeepsTheRecord :
    (vec .runTestIdle (edges [pin false true, pin false false])).stimulus = edges [pin false true, pin false false] ++ [] ∧
    (vec .runTestIdle []).resetAsserted = false ∧ (vec .runTestIdle []).state = .runTestIdle ∧
    (∀ p ∈ [pin false true, pin false false], p.tms = false) ∧
    (vec .pauseIr []).selects (Instr.pir0 true).home = true := by decide

theorem witness_PauseIsTransparent :
    (vec .exit1Ir (edges (pauseEdges (pin false false) 1))).stimulus = edges (pauseEdges (pin false false) 1) ++ [] ∧
    (vec .exit1Ir []).resetAsserted = false ∧ (vec .exit1Ir []).state = .exit1Ir ∧ (vec .exit1Dr []).state = .exit1Dr := by
  decide

/-- A run with a pause in it, from just after the capture; no edge of it is a capture or a shift of the other register. -/
theorem witness_IrFifoAndContent :
    let ps := [pin true true, pin false false, pin true false, pin false false, pin false true]
    (vec .shiftIr (edges ps)).stimulus = edges ps ++ [] ∧ (vec .shiftIr []).resetAsserted = false ∧
    (vec .shiftIr []).irSh ≠ [] ∧ avoids [.captureIr] .shiftIr ps = true ∧ avoids [.shiftDr] .shiftIr ps = true ∧
    bitsAt .shiftIr .shiftIr ps = [true, true] := by decide

theorem witness_DrFifoAndContent :
    let ps := [pin true true, pin false false, pin true false, pin false false, pin false true]
    (vec .shiftDr (edges ps)).stimulus = edges ps ++ [] ∧ (vec .shiftDr []).resetAsserted = false ∧
    (vec .shiftDr []).drSh ≠ [] ∧ avoids [.captureDr] .shiftDr ps = true ∧ avoids [.shiftIr] .shiftDr ps = true ∧
    bitsAt .shiftDr .shiftDr ps = [true, true] := by decide

theorem witness_IrScanCommits :
    ([true] : List Bool) ≠ [] ∧ (pin false false).irCapIn ≠ [] ∧
    (vec .runTestIdle (edges (irScan (pin false false) [true]))).stimulus = edges (irScan (pin false false) [true]) ++ [] ∧
    (vec .runTestIdle []).resetAsserted = false ∧ (vec .runTestIdle []).state = .runTestIdle := by decide

theorem witness_DrScanCommits :
    ([true] : List Bool) ≠ [] ∧ (pin false false).drCapIn ≠ [] ∧
    (vec .runTestIdle (edges (drScan (pin false false) [true]))).stimulus = edges (drScan (pin false false) [true]) ++ [] ∧
    (vec .runTestIdle []).resetAsserted = false ∧ (vec .runTestIdle []).state = .runTestIdle := by decide

theorem witness_ZeroBitScanCommitsCapture :
    (vec .selectDrScan (edges [pin false true, pin true true, pin true false, pin false false])).stimulus =
      edges [pin false true, pin true true, pin true false, pin false false] ++ [] ∧
    (vec .selectDrScan []).resetAsserted = false ∧ (pin false true).tms = false ∧ (pin true true).tms = true ∧
    (pin true false).tms = true ∧ (vec .selectDrScan []).state = .selectDrScan ∧
    (vec .selectIrScan []).state = .selectIrScan := by decide

/-- The two blocks differ in the IR shift stage, which the edge of CaptureIr is about to overwrite. -/
theorem witness_UnusedShiftStagesStayUnseen :
    (one .captureIr false true).agreesWith { one .captureIr false true with irSh := (one .captureIr false true).irSh.map (!·) } ∧
    (one .captureIr false true).irSh.map (!·) ≠ (one .captureIr false true).irSh :=
  ⟨⟨rfl, rfl, rfl, rfl, rfl, rfl, fun h => absurd h (by decide), fun _ => rfl⟩, by decide⟩

/-- The three clauses at the boundary between a bit and no bit. -/
theorem witness_CallChecksItsArguments : 1 < 2 ∧ (1 ≤ 1 ∧ 1 < 2) ∧ (1 ≤ 1 ∧ 0 ≤ 1) := by decide

end Sys2Proof.Tests
end

section
/-! PROOFS. No step changes the width of a register: each shared operation keeps `State.wf`, so the step does. -/

namespace Sys2Proof.Machine

/-! ### What well-formedness says -/

theorem Config.wf_iff {c : Config} : c.wf = true ↔ 1 ≤ c.irLen ∧ 1 ≤ c.drLen := by
  simp [Config.wf]

theorem Inputs.wf_iff {c : Config} {p : Inputs} :
    p.wf c = true ↔ p.irCapIn.length = c.irLen ∧ p.drCapIn.length = c.drLen := by
  simp [Inputs.wf]

theorem State.wf_iff {c : Config} {s : State} :
    s.wf c = true ↔
      c.wf = true ∧ s.irSh.length = c.irLen ∧ s.irHold.length = c.irLen ∧ s.drSh.length = c.drLen ∧
        s.drHold.length = c.drLen ∧ s.inp.wf c = true ∧ stimulusWf c s.stimulus = true := by
  simp [State.wf, and_assoc]

theorem stimulusWf_cons {c : Config} {e : Event} {rest : List Event} :
    stimulusWf c (e :: rest) = true ↔ e.wf c = true ∧ stimulusWf c rest = true := by
  simp [stimulusWf]

/-- A shift keeps the width because a stage of an instance has at least one bit (00_scope.md R6). -/
theorem shiftIn_length_of_pos {sh : Bits} {n : Nat} (tdi : Bool) (hn : 1 ≤ n) (h : sh.length = n) :
    (shiftIn tdi sh).length = n := by
  have hne : sh ≠ [] := List.ne_nil_of_length_pos (by omega)
  rw [shiftIn_length tdi hne, h]

/-! ### The shared operations keep it -/

theorem State.goTo_wf {c : Config} {s : State} (q : TapState) (h : s.wf c = true) : (s.goTo q).wf c = true := h

theorem State.capture_wf {c : Config} {s : State} (r : Path) (h : s.wf c = true) : (s.capture r).wf c = true := by
  obtain ⟨hc, hirSh, hirHold, hdrSh, hdrHold, hinp, hstim⟩ := State.wf_iff.mp h
  obtain ⟨hirCap, hdrCap⟩ := Inputs.wf_iff.mp hinp
  cases r with
  | dr => exact State.wf_iff.mpr ⟨hc, hirSh, hirHold, hdrCap, hdrHold, hinp, hstim⟩
  | ir => exact State.wf_iff.mpr ⟨hc, hirCap, hirHold, hdrSh, hdrHold, hinp, hstim⟩

theorem State.shift_wf {c : Config} {s : State} (r : Path) (tdi : Bool) (h : s.wf c = true) :
    (s.shift r tdi).wf c = true := by
  obtain ⟨hc, hirSh, hirHold, hdrSh, hdrHold, hinp, hstim⟩ := State.wf_iff.mp h
  obtain ⟨hirPos, hdrPos⟩ := Config.wf_iff.mp hc
  cases r with
  | dr =>
    exact State.wf_iff.mpr
      ⟨hc, hirSh, hirHold, shiftIn_length_of_pos tdi hdrPos hdrSh, hdrHold, hinp, hstim⟩
  | ir =>
    exact State.wf_iff.mpr
      ⟨hc, shiftIn_length_of_pos tdi hirPos hirSh, hirHold, hdrSh, hdrHold, hinp, hstim⟩

theorem State.update_wf {c : Config} {s : State} (r : Path) (h : s.wf c = true) : (s.update r).wf c = true := by
  obtain ⟨hc, hirSh, hirHold, hdrSh, hdrHold, hinp, hstim⟩ := State.wf_iff.mp h
  cases r with
  | dr => exact State.wf_iff.mpr ⟨hc, hirSh, hirHold, hdrSh, hdrSh, hinp, hstim⟩
  | ir => exact State.wf_iff.mpr ⟨hc, hirSh, hirSh, hdrSh, hdrHold, hinp, hstim⟩

theorem actionAt_wf {c : Config} {s : State} (q : TapState) (tdi : Bool) (h : s.wf c = true) :
    (actionAt q tdi s).wf c = true := by
  cases q with
  | captureDr => exact State.capture_wf .dr h
  | captureIr => exact State.capture_wf .ir h
  | shiftDr => exact State.shift_wf .dr tdi h
  | shiftIr => exact State.shift_wf .ir tdi h
  | updateDr => exact State.update_wf .dr h
  | updateIr => exact State.update_wf .ir h
  | testLogicReset | runTestIdle | selectDrScan | exit1Dr | pauseDr | exit2Dr | selectIrScan | exit1Ir | pauseIr
  | exit2Ir => exact h

theorem exec_wf {c : Config} {i : Instr} {s t : State} (h : s.wf c = true) (hx : exec i s = .next t) :
    t.wf c = true := by
  rw [exec_eq_perform, State.perform_eq_next] at hx
  obtain ⟨-, -, rfl⟩ := hx
  exact State.goTo_wf _ (actionAt_wf _ _ h)

/-! ### The moves of the environment keep it -/

theorem State.assertReset_wf {c : Config} {s : State} (h : s.wf c = true) : s.assertReset.wf c = true := h

theorem State.deassertReset_wf {c : Config} {s : State} (h : s.wf c = true) : s.deassertReset.wf c = true := h

theorem State.present_wf {c : Config} {p : Inputs} {s : State} (hp : p.wf c = true) (h : s.wf c = true) :
    (s.present p).wf c = true := by
  obtain ⟨hc, hirSh, hirHold, hdrSh, hdrHold, -, hstim⟩ := State.wf_iff.mp h
  exact State.wf_iff.mpr ⟨hc, hirSh, hirHold, hdrSh, hdrHold, hp, hstim⟩

/-- Taking the next move off the stimulus: the move fits the instance, and the state without it is still of it. -/
theorem State.wf_of_stimulus_cons {c : Config} {s : State} {e : Event} {rest : List Event} (h : s.wf c = true)
    (hs : s.stimulus = e :: rest) : e.wf c = true ∧ State.wf c { s with stimulus := rest } = true := by
  obtain ⟨hc, hirSh, hirHold, hdrSh, hdrHold, hinp, hstim⟩ := State.wf_iff.mp h
  rw [hs] at hstim
  obtain ⟨he, hrest⟩ := stimulusWf_cons.mp hstim
  exact ⟨he, State.wf_iff.mpr ⟨hc, hirSh, hirHold, hdrSh, hdrHold, hinp, hrest⟩⟩

/-- Settles O8, by the cases of one step: the move taken fits the instance, and what it does keeps the widths. -/
theorem stepKeepsWidths : Obligations.StepKeepsWidths := by
  intro c s t h hstep
  obtain ⟨-, rfl⟩ | ⟨rest, hs, rfl⟩ | ⟨rest, hs, rfl⟩ | ⟨p, rest, hs, -, rfl⟩ | ⟨p, rest, hs, -, hx⟩ :=
    step_cases hstep
  · exact h
  · exact State.assertReset_wf (State.wf_of_stimulus_cons h hs).2
  · exact State.deassertReset_wf (State.wf_of_stimulus_cons h hs).2
  · obtain ⟨hp, hrest⟩ := State.wf_of_stimulus_cons h hs
    exact State.present_wf hp hrest
  · obtain ⟨hp, hrest⟩ := State.wf_of_stimulus_cons h hs
    exact exec_wf (State.present_wf hp hrest) hx

end Sys2Proof.Machine
end

section
/-! PROOFS. The registers (10_state.md): an edge acts on the register of its own path, nothing reads the committed IR,
and what power-up establishes. -/

namespace Sys2Proof.Machine

/-! ### What an edge leaves unchanged -/

/-- An active edge always completes: the action of the current State, then its successor (42_controller_step.md R183). -/
theorem step_edge_eq_next {s : State} {p : Inputs} {rest : List Event} (hs : s.stimulus = .edge p :: rest)
    (hr : s.resetAsserted = false) :
    step s = .next ((actionAt s.state p.tdi (State.present p { s with stimulus := rest })).goTo
      (next s.state p.tms)) := by
  rw [step_edge hs hr, exec_eq_perform, home_select, tms_select, tdi_select]
  exact State.perform_selected rfl hr

theorem actionAt_ir_unchanged {q : TapState} (tdi : Bool) (s : State) (hq : TapState.path q ≠ some .ir) :
    (actionAt q tdi s).irSh = s.irSh ∧ (actionAt q tdi s).irHold = s.irHold := by
  cases q with
  | selectIrScan | captureIr | shiftIr | exit1Ir | pauseIr | exit2Ir | updateIr => exact absurd rfl hq
  | captureDr => exact ⟨State.capture_dr_irSh s, State.capture_dr_irHold s⟩
  | shiftDr => exact ⟨State.shift_dr_irSh tdi s, State.shift_dr_irHold tdi s⟩
  | updateDr => exact ⟨State.update_dr_irSh s, State.update_dr_irHold s⟩
  | testLogicReset | runTestIdle | selectDrScan | exit1Dr | pauseDr | exit2Dr =>
    exact ⟨State.hold_irSh s, State.hold_irHold s⟩

theorem actionAt_dr_unchanged {q : TapState} (tdi : Bool) (s : State) (hq : TapState.path q ≠ some .dr) :
    (actionAt q tdi s).drSh = s.drSh ∧ (actionAt q tdi s).drHold = s.drHold := by
  cases q with
  | selectDrScan | captureDr | shiftDr | exit1Dr | pauseDr | exit2Dr | updateDr => exact absurd rfl hq
  | captureIr => exact ⟨State.capture_ir_drSh s, State.capture_ir_drHold s⟩
  | shiftIr => exact ⟨State.shift_ir_drSh tdi s, State.shift_ir_drHold tdi s⟩
  | updateIr => exact ⟨State.update_ir_drSh s, State.update_ir_drHold s⟩
  | testLogicReset | runTestIdle | selectIrScan | exit1Ir | pauseIr | exit2Ir =>
    exact ⟨State.hold_drSh s, State.hold_drHold s⟩

/-- No action reads the committed IR (10_state.md R25, R28): with another value in it, all other components come out the
same. In UpdateIr the action overwrites it; every other action carries it along. -/
theorem actionAt_irHold_unread (q : TapState) (tdi : Bool) (s : State) (h : Bits) :
    { actionAt q tdi { s with irHold := h } with irHold := (actionAt q tdi s).irHold } = actionAt q tdi s := by
  cases q <;> rfl

/-- Settles O33: the edge performs the action of its State, which leaves the registers of the other path and does not
read the committed IR. -/
theorem registersAreIndependent : Obligations.RegistersAreIndependent := by
  intro s p rest hs hr
  have hir := actionAt_ir_unchanged (q := s.state) p.tdi (State.present p { s with stimulus := rest })
  have hdr := actionAt_dr_unchanged (q := s.state) p.tdi (State.present p { s with stimulus := rest })
  refine ⟨_, step_edge_eq_next hs hr, fun hpath => hir (by simp [hpath]), fun hpath => hdr (by simp [hpath]),
    fun hpath => ?_, fun h => ⟨_, step_edge_eq_next (s := { s with irHold := h }) hs hr, ?_⟩⟩
  · obtain ⟨hirSh, hirHold⟩ := hir (by simp [hpath])
    obtain ⟨hdrSh, hdrHold⟩ := hdr (by simp [hpath])
    exact ⟨hirSh, hirHold, hdrSh, hdrHold⟩
  · exact congrArg (fun u => (u.goTo (next s.state p.tms)).record)
      (actionAt_irHold_unread s.state p.tdi (State.present p { s with stimulus := rest }) h)

/-! ### Power-up -/

theorem State.powerUp_record (a b c d : Bits) (p : Inputs) (es : List Event) :
    (State.powerUp a b c d p es).record =
      { state := .testLogicReset, irSh := a, irHold := b, drSh := c, drHold := d, tdo := false } := rfl

/-- At power-up no ControlSignal is up, because none is in TestLogicReset (42_controller_step.md R180). -/
theorem State.powerUp_signals (a b c d : Bits) (p : Inputs) (es : List Event) :
    (State.powerUp a b c d p es).outputs.signals = Signals.row 0 0 0 0 0 0 0 := by
  rw [State.outputs_signals, State.powerUp_state, sig]

theorem State.powerUp_wf {c : Config} {a b d e : Bits} {p : Inputs} {es : List Event} (hc : c.wf = true)
    (ha : a.length = c.irLen) (hb : b.length = c.irLen) (hd : d.length = c.drLen) (he : e.length = c.drLen)
    (hp : p.wf c = true) (hes : stimulusWf c es = true) : (State.powerUp a b d e p es).wf c = true :=
  State.wf_iff.mpr ⟨hc, ha, hb, hd, he, hp, hes⟩

theorem State.resetHeld_of_not_resetAsserted {s : State} (h : s.resetAsserted = false) : s.resetHeld = true := by
  simp [State.resetHeld, h]

/-- `State.reset` is one of the power-up states of REF, so it has REF's widths. -/
theorem State.reset_wf : State.reset.wf Config.ref = true :=
  State.powerUp_wf (by decide) (Bits.lit_length 2 0) (Bits.lit_length 2 0) (Bits.lit_length 1 0)
    (Bits.lit_length 1 0) (by decide) rfl

/-- Settles O6: the record and the signals of power-up, and `State.reset` as the power-up state of REF with zeros. -/
theorem resetValues : Obligations.ResetValues :=
  ⟨fun a b c d p es => ⟨State.powerUp_record a b c d p es, State.powerUp_signals a b c d p es⟩,
    State.powerUp_record .., State.powerUp_resetAsserted .., State.powerUp_stimulus .., State.powerUp_inp ..⟩

/-- Settles O7: the widths are those drawn, and reset is deasserted at power-up. -/
theorem invariantsAtReset : Obligations.InvariantsAtReset :=
  ⟨State.reset_wf, State.resetHeld_of_not_resetAsserted rfl, fun _ _ _ _ _ _ _ hc ha hb hd he hp hes =>
    ⟨State.powerUp_wf hc ha hb hd he hp hes,
      State.resetHeld_of_not_resetAsserted (State.powerUp_resetAsserted ..)⟩⟩

end Sys2Proof.Machine
end

section
/-! PROOFS. The registers as memory (20_memory.md): a run of active edges as a fold over the edges, the first-in
first-out and content laws of a shift stage along it, and when an update shows on the outputs. Both registers obey one
law, so it is proved for a `Path`. -/

namespace Sys2Proof.Machine

/-! ### One active edge, and a run of them, as functions on states -/

/-- The state an active edge with inputs `p` leads to while reset is deasserted (42_controller_step.md R183). -/
def State.afterEdge (s : State) (p : Inputs) : State :=
  (actionAt s.state p.tdi (s.present p)).goTo (next s.state p.tms)

/-- The state a run of active edges leads to while reset is deasserted. -/
def State.afterEdges (s : State) (ps : List Inputs) : State := ps.foldl State.afterEdge s

theorem step_eq_afterEdge {s : State} {p : Inputs} {rest : List Event} (hs : s.stimulus = .edge p :: rest)
    (hr : s.resetAsserted = false) : step s = .next (State.afterEdge { s with stimulus := rest } p) :=
  step_edge_eq_next hs hr

@[simp] theorem State.afterEdge_state (s : State) (p : Inputs) : (s.afterEdge p).state = next s.state p.tms := rfl

theorem actionAt_resetAsserted (q : TapState) (tdi : Bool) (s : State) :
    (actionAt q tdi s).resetAsserted = s.resetAsserted := by
  cases q <;> rfl

@[simp] theorem State.afterEdge_resetAsserted (s : State) (p : Inputs) :
    (s.afterEdge p).resetAsserted = s.resetAsserted :=
  actionAt_resetAsserted s.state p.tdi (s.present p)

/-- No action reads or writes the moves still to come. -/
theorem actionAt_with_stimulus (q : TapState) (tdi : Bool) (s : State) (es : List Event) :
    actionAt q tdi { s with stimulus := es } = { actionAt q tdi s with stimulus := es } := by
  cases q <;> rfl

theorem State.afterEdge_with_stimulus (s : State) (p : Inputs) (es : List Event) :
    State.afterEdge { s with stimulus := es } p = { s.afterEdge p with stimulus := es } :=
  congrArg (State.goTo (next s.state p.tms)) (actionAt_with_stimulus s.state p.tdi (s.present p) es)

@[simp] theorem State.afterEdges_nil (s : State) : s.afterEdges [] = s := rfl

@[simp] theorem State.afterEdges_cons (s : State) (p : Inputs) (ps : List Inputs) :
    s.afterEdges (p :: ps) = (s.afterEdge p).afterEdges ps := rfl

theorem State.afterEdges_with_stimulus (s : State) (ps : List Inputs) (es : List Event) :
    State.afterEdges { s with stimulus := es } ps = { s.afterEdges ps with stimulus := es } := by
  induction ps generalizing s with
  | nil => rfl
  | cons p ps ih => rw [State.afterEdges_cons, State.afterEdge_with_stimulus, ih, State.afterEdges_cons]

/-- With edges next in the stimulus and reset deasserted, the machine's run is the fold. -/
theorem runsTo_afterEdges {ps : List Inputs} {s : State} {rest : List Event} (hs : s.stimulus = edges ps ++ rest)
    (hr : s.resetAsserted = false) : runsTo ps.length s { s.afterEdges ps with stimulus := rest } := by
  induction ps generalizing s with
  | nil =>
    have hrest : s.stimulus = rest := hs
    exact runsTo_zero.mpr (by rw [State.afterEdges_nil, ← hrest])
  | cons p ps ih =>
    refine runsTo_succ.mpr ⟨_, step_eq_afterEdge (rest := edges ps ++ rest) hs hr, ?_⟩
    rw [State.afterEdge_with_stimulus]
    have hrun := ih (s := { s.afterEdge p with stimulus := edges ps ++ rest }) rfl
      ((State.afterEdge_resetAsserted s p).trans hr)
    rwa [State.afterEdges_with_stimulus] at hrun

@[simp] theorem State.afterEdges_state (s : State) (ps : List Inputs) :
    (s.afterEdges ps).state = walk s.state ps := by
  induction ps generalizing s with
  | nil => rfl
  | cons p ps ih => rw [State.afterEdges_cons, ih, State.afterEdge_state]; rfl

/-! ### What the predicates of the statements say of one more edge -/

theorem avoids_singleton_cons {q' q : TapState} {p : Inputs} {ps : List Inputs} :
    avoids [q'] q (p :: ps) = true ↔ q ≠ q' ∧ avoids [q'] (next q p.tms) ps = true := by
  simp [avoids]

theorem bitsAt_cons_same (q : TapState) (p : Inputs) (ps : List Inputs) :
    bitsAt q q (p :: ps) = p.tdi :: bitsAt q (next q p.tms) ps := by
  simp [bitsAt]

theorem bitsAt_cons_of_ne {sh q : TapState} (h : q ≠ sh) (p : Inputs) (ps : List Inputs) :
    bitsAt sh q (p :: ps) = bitsAt sh (next q p.tms) ps := by
  simp [bitsAt, h]

/-! ### The shift stage of a path -/

/-- The shift stage of the register of a path (10_state.md R24, R26). -/
def State.stage (r : Path) (s : State) : Bits :=
  match r with
  | .dr => s.drSh
  | .ir => s.irSh

/-- The State whose edge captures into the register of a path. -/
def captureAt : Path → TapState
  | .dr => .captureDr
  | .ir => .captureIr

/-- The State whose edge shifts the register of a path. -/
def shiftAt : Path → TapState
  | .dr => .shiftDr
  | .ir => .shiftIr

/-- The other of the two paths. -/
def otherPath : Path → Path
  | .dr => .ir
  | .ir => .dr

@[simp] theorem State.goTo_stage (r : Path) (q : TapState) (s : State) : (s.goTo q).stage r = s.stage r := by
  cases r <;> rfl

@[simp] theorem State.present_stage (r : Path) (p : Inputs) (s : State) : (s.present p).stage r = s.stage r := by
  cases r <;> rfl

theorem actionAt_shiftAt (r : Path) (tdi : Bool) : actionAt (shiftAt r) tdi = State.shift r tdi := by
  cases r <;> rfl

theorem State.shift_stage (r : Path) (tdi : Bool) (s : State) : (s.shift r tdi).stage r = shiftIn tdi (s.stage r) := by
  cases r with
  | dr => exact State.shift_dr_drSh tdi s
  | ir => exact State.shift_ir_irSh tdi s

theorem State.shift_tdo (r : Path) (tdi : Bool) (s : State) : (s.shift r tdi).tdo = shiftOut (s.stage r) := by
  cases r with
  | dr => exact State.shift_dr_tdo tdi s
  | ir => exact State.shift_ir_tdo tdi s

/-- Only Capture and Shift of its own path write a shift stage (41_shift_register_path.md R150 to R165). -/
theorem actionAt_stage_unchanged {r : Path} {q : TapState} (tdi : Bool) (s : State) (hc : q ≠ captureAt r)
    (hsh : q ≠ shiftAt r) : (actionAt q tdi s).stage r = s.stage r := by
  cases r with
  | dr =>
    cases q with
    | captureDr => exact absurd rfl hc
    | shiftDr => exact absurd rfl hsh
    | _ => rfl
  | ir =>
    cases q with
    | captureIr => exact absurd rfl hc
    | shiftIr => exact absurd rfl hsh
    | _ => rfl

theorem ne_shiftAt_of_both {r : Path} {q : TapState} (h : q ≠ shiftAt r) (ho : q ≠ shiftAt (otherPath r))
    (r' : Path) : q ≠ shiftAt r' := by
  cases r <;> cases r'
  · exact h
  · exact ho
  · exact ho
  · exact h

/-- Only the two Shift actions write `tdo` (decision D7, log 5). -/
theorem actionAt_tdo_unchanged {q : TapState} (tdi : Bool) (s : State) (hsh : ∀ r, q ≠ shiftAt r) :
    (actionAt q tdi s).tdo = s.tdo := by
  cases q with
  | shiftDr => exact absurd rfl (hsh .dr)
  | shiftIr => exact absurd rfl (hsh .ir)
  | _ => rfl

/-! ### The stage and `tdo` after one edge -/

theorem State.afterEdge_stage_of_shift {r : Path} {s : State} (h : s.state = shiftAt r) (p : Inputs) :
    (s.afterEdge p).stage r = shiftIn p.tdi (s.stage r) := by
  rw [State.afterEdge, State.goTo_stage, h, actionAt_shiftAt, State.shift_stage, State.present_stage]

theorem State.afterEdge_tdo_of_shift {r : Path} {s : State} (h : s.state = shiftAt r) (p : Inputs) :
    (s.afterEdge p).tdo = shiftOut (s.stage r) := by
  rw [State.afterEdge, State.goTo_tdo, h, actionAt_shiftAt, State.shift_tdo, State.present_stage]

theorem State.afterEdge_stage_unchanged {r : Path} {s : State} (hc : s.state ≠ captureAt r)
    (hsh : s.state ≠ shiftAt r) (p : Inputs) : (s.afterEdge p).stage r = s.stage r := by
  rw [State.afterEdge, State.goTo_stage, actionAt_stage_unchanged p.tdi _ hc hsh, State.present_stage]

theorem State.afterEdge_tdo_unchanged {s : State} (hsh : ∀ r, s.state ≠ shiftAt r) (p : Inputs) :
    (s.afterEdge p).tdo = s.tdo :=
  actionAt_tdo_unchanged p.tdi (s.present p) hsh

/-! ### The serial path over many bits -/

theorem shiftIn_ne_nil (b : Bool) (c : Bits) : shiftIn b c ≠ [] := by
  simp [shiftIn]

/-- The first of the bits to come pushes one bit out of the stage. -/
theorem append_cons_eq_shiftOut_cons {c : Bits} (hc : c ≠ []) (b : Bool) (d : Bits) :
    c ++ b :: d = shiftOut c :: (shiftIn b c ++ d) := by
  rw [List.append_cons, ← shiftOut_cons_shiftIn b hc, List.cons_append]

/-- One bit pushed through the stage before the bits `d`: the content law's value is the same. -/
theorem drop_shiftIn_append {c : Bits} (hc : c ≠ []) (b : Bool) (d : Bits) :
    (shiftIn b c ++ d).drop d.length = (c ++ b :: d).drop (b :: d).length := by
  rw [append_cons_eq_shiftOut_cons hc, List.length_cons, List.drop_succ_cons]

/-- The level on `tdo` after the bits `d` went through a stage `c`, if it was `o` before: the latest bit that fell out
of `c ++ d`. -/
def latestOut (o : Bool) (c d : Bits) : Bool := if d = [] then o else (c ++ d).getD (d.length - 1) false

theorem latestOut_nil (o : Bool) (c : Bits) : latestOut o c [] = o := rfl

theorem latestOut_shiftIn {c : Bits} (hc : c ≠ []) (o b : Bool) (d : Bits) :
    latestOut (shiftOut c) (shiftIn b c) d = latestOut o c (b :: d) := by
  rw [latestOut, latestOut, append_cons_eq_shiftOut_cons hc]
  cases d with
  | nil => rfl
  | cons a l => simp only [List.length_cons, Nat.add_sub_cancel, List.getD_cons_succ, reduceCtorEq, if_false]

/-! ### The laws along a run -/

/-- First in, first out, for either register: without a recapture the stage is what it started with followed by the bits
shifted in, without as many bits at the front (20_memory.md R53). -/
theorem State.afterEdges_stage (r : Path) {s : State} {ps : List Inputs} (hne : s.stage r ≠ [])
    (hcap : avoids [captureAt r] s.state ps = true) :
    (s.afterEdges ps).stage r =
      (s.stage r ++ bitsAt (shiftAt r) s.state ps).drop (bitsAt (shiftAt r) s.state ps).length := by
  induction ps generalizing s with
  | nil => rw [State.afterEdges_nil, bitsAt, List.append_nil, List.length_nil, List.drop_zero]
  | cons p ps ih =>
    obtain ⟨hc, hrest⟩ := avoids_singleton_cons.mp hcap
    rw [State.afterEdges_cons]
    by_cases hsh : s.state = shiftAt r
    · have hstage := State.afterEdge_stage_of_shift hsh p
      rw [ih (hstage ▸ shiftIn_ne_nil p.tdi _) hrest, hstage, State.afterEdge_state, hsh, bitsAt_cons_same,
        drop_shiftIn_append hne]
    · have hstage := State.afterEdge_stage_unchanged hc hsh p
      rw [ih (hstage ▸ hne) hrest, hstage, State.afterEdge_state, bitsAt_cons_of_ne hsh]

/-- The content law, for either register: with no shift of the other one, `tdo` is the latest bit that fell out
(41_shift_register_path.md R166, R167). -/
theorem State.afterEdges_tdo (r : Path) {s : State} {ps : List Inputs} (hne : s.stage r ≠ [])
    (hcap : avoids [captureAt r] s.state ps = true) (hother : avoids [shiftAt (otherPath r)] s.state ps = true) :
    (s.afterEdges ps).tdo = latestOut s.tdo (s.stage r) (bitsAt (shiftAt r) s.state ps) := by
  induction ps generalizing s with
  | nil => rw [State.afterEdges_nil, bitsAt, latestOut_nil]
  | cons p ps ih =>
    obtain ⟨hc, hcapRest⟩ := avoids_singleton_cons.mp hcap
    obtain ⟨ho, hotherRest⟩ := avoids_singleton_cons.mp hother
    rw [State.afterEdges_cons]
    by_cases hsh : s.state = shiftAt r
    · have hstage := State.afterEdge_stage_of_shift hsh p
      rw [ih (hstage ▸ shiftIn_ne_nil p.tdi _) hcapRest hotherRest, hstage, State.afterEdge_tdo_of_shift hsh,
        State.afterEdge_state, hsh, bitsAt_cons_same, latestOut_shiftIn hne s.tdo]
    · have hstage := State.afterEdge_stage_unchanged hc hsh p
      rw [ih (hstage ▸ hne) hcapRest hotherRest, hstage, State.afterEdge_tdo_unchanged (ne_shiftAt_of_both hsh ho),
        State.afterEdge_state, bitsAt_cons_of_ne hsh]

theorem State.afterEdges_stage_length (r : Path) {s : State} {ps : List Inputs} (hne : s.stage r ≠ [])
    (hcap : avoids [captureAt r] s.state ps = true) : ((s.afterEdges ps).stage r).length = (s.stage r).length := by
  rw [State.afterEdges_stage r hne hcap, List.length_drop, List.length_append, Nat.add_sub_cancel]

/-- Settles O44: the laws of a stage, for the IR, along the run the edges make. -/
theorem irFifoAndContent : Obligations.IrFifoAndContent := by
  intro ps s rest hs hr hne hcap
  exact ⟨_, runsTo_afterEdges hs hr, rfl, State.afterEdges_state s ps, State.afterEdges_stage_length .ir hne hcap,
    State.afterEdges_stage .ir hne hcap, State.afterEdges_tdo .ir hne hcap⟩

/-- Settles O45: the laws of a stage, for the DR, along the run the edges make. -/
theorem drFifoAndContent : Obligations.DrFifoAndContent := by
  intro ps s rest hs hr hne hcap
  exact ⟨_, runsTo_afterEdges hs hr, rfl, State.afterEdges_state s ps, State.afterEdges_stage_length .dr hne hcap,
    State.afterEdges_stage .dr hne hcap, State.afterEdges_tdo .dr hne hcap⟩

/-! ### The outputs around an update edge -/

theorem State.afterEdge_of_updateIr {s : State} (h : s.state = .updateIr) (p : Inputs) :
    s.afterEdge p = ((s.present p).update .ir).goTo (next .updateIr p.tms) := by
  rw [State.afterEdge, h, actionAt]

theorem State.afterEdge_of_updateDr {s : State} (h : s.state = .updateDr) (p : Inputs) :
    s.afterEdge p = ((s.present p).update .dr).goTo (next .updateDr p.tms) := by
  rw [State.afterEdge, h, actionAt]

/-- Settles O18: the edge of an Update State copies the shift stage as it stood to the committed stage, which is the
output, and writes nothing else but the State (20_memory.md R61; decision D7 for `tdo`). -/
theorem updateVisibleAfterItsEdge : Obligations.UpdateVisibleAfterItsEdge := by
  intro s p rest hs hr
  refine ⟨fun h => ⟨State.outputs_irOut s, _, step_eq_afterEdge hs hr, ?_⟩,
    fun h => ⟨State.outputs_drOut s, _, step_eq_afterEdge hs hr, ?_⟩⟩
  · rw [State.afterEdge_of_updateIr (s := { s with stimulus := rest }) h]
    simp
  · rw [State.afterEdge_of_updateDr (s := { s with stimulus := rest }) h]
    simp

end Sys2Proof.Machine
end

section
/-! PROOFS. The encoding (30_encoding.md): the stimulus word and the step code as packings, decode and encode as inverses
of each other, and which operation an edge runs. -/

namespace Sys2Proof.Machine

/-! ### The stimulus word and the harness byte -/

@[simp] theorem stimTms_stimWord (tms tdi : Bool) : stimTms (stimWord tms tdi) = tms := by
  cases tms <;> cases tdi <;> rfl

@[simp] theorem stimTdi_stimWord (tms tdi : Bool) : stimTdi (stimWord tms tdi) = tdi := by
  cases tms <;> cases tdi <;> rfl

theorem stimWord_toNat (tms tdi : Bool) : (stimWord tms tdi).toNat = 2 * tms.toNat + tdi.toNat := by
  cases tms <;> cases tdi <;> rfl

theorem stimWord_of_fields (w : BitVec 2) : stimWord (stimTms w) (stimTdi w) = w := by
  apply BitVec.eq_of_toNat_eq
  rw [stimWord_toNat, stimTms, stimTdi, BitVec.getLsbD, BitVec.getLsbD, Nat.toNat_testBit, Nat.toNat_testBit]
  omega

theorem stimOfByte_getLsbD (b : BitVec 8) {k : Nat} (hk : k < 2) : (stimOfByte b).getLsbD k = b.getLsbD k := by
  simp [stimOfByte, hk]

/-- The State selects the operation, not the packing: decoding a packed word is selecting by its two bits. -/
@[simp] theorem decodeStim_stimWord (q : TapState) (tms tdi : Bool) :
    decodeStim q (stimWord tms tdi) = select q tms tdi := by
  rw [decodeStim, stimTms_stimWord, stimTdi_stimWord]

/-! ### The step code as three fields -/

/-- The fields of the step code do not overlap, so no bit of the sum is cut off. -/
theorem stepCode_toNat (q : TapState) (tms tdi : Bool) :
    (stepCode q tms tdi).toNat = q.index.toNat * 4 + tms.toNat * 2 + tdi.toNat := by
  have hq := q.index.isLt
  have htms := tms.toNat_le
  have htdi := tdi.toNat_le
  rw [stepCode, BitVec.toNat_ofNat]
  omega

theorem stepCode_index (q : TapState) (tms tdi : Bool) : (stepCode q tms tdi).extractLsb' 2 4 = q.index := by
  have hq := q.index.isLt
  have htms := tms.toNat_le
  have htdi := tdi.toNat_le
  apply BitVec.eq_of_toNat_eq
  rw [BitVec.extractLsb'_toNat, stepCode_toNat, Nat.shiftRight_eq_div_pow]
  omega

theorem stepCode_tms (q : TapState) (tms tdi : Bool) : (stepCode q tms tdi).getLsbD 1 = tms := by
  have htms := tms.toNat_le
  have htdi := tdi.toNat_le
  rw [BitVec.getLsbD, Nat.testBit_eq_decide_div_mod_eq, stepCode_toNat, Bool.eq_iff_iff, decide_eq_true_iff,
    ← Bool.toNat_eq_one]
  omega

theorem stepCode_tdi (q : TapState) (tms tdi : Bool) : (stepCode q tms tdi).getLsbD 0 = tdi := by
  have htdi := tdi.toNat_le
  rw [BitVec.getLsbD, Nat.testBit_eq_decide_div_mod_eq, stepCode_toNat, Bool.eq_iff_iff, decide_eq_true_iff,
    ← Bool.toNat_eq_one]
  omega

/-- A code is its three fields put together. -/
theorem code_toNat_eq_fields (c : BitVec 6) :
    c.toNat = (c.extractLsb' 2 4).toNat * 4 + (c.getLsbD 1).toNat * 2 + (c.getLsbD 0).toNat := by
  have hc := c.isLt
  rw [BitVec.extractLsb'_toNat, Nat.shiftRight_eq_div_pow, BitVec.getLsbD, BitVec.getLsbD, Nat.toNat_testBit,
    Nat.toNat_testBit]
  omega

/-- The mask of a row of the opcode table clears bit 0, the operand. -/
theorem and_operandMask_toNat (c : BitVec 6) : (c &&& 0b111110#6).toNat = c.toNat / 2 * 2 := by
  revert c
  decide

theorem stepCode_and_operandMask (q : TapState) (tms tdi : Bool) :
    stepCode q tms tdi &&& 0b111110#6 = stepCode q tms false := by
  have htdi := tdi.toNat_le
  apply BitVec.eq_of_toNat_eq
  rw [and_operandMask_toNat, stepCode_toNat, stepCode_toNat, Bool.toNat_false]
  omega

/-! ### Decode and encode -/

@[simp] theorem ofIndex_index (q : TapState) : TapState.ofIndex q.index = q := by
  cases q <;> rfl

@[simp] theorem index_ofIndex (k : BitVec 4) : (TapState.ofIndex k).index = k := by
  revert k
  decide

open Laws.Fields in
/-- Every row of the opcode table holds the step code of its fields. -/
theorem encode_eq_stepCode (i : Instr) : encode i = stepCode i.home i.tms i.tdi :=
  i.casesOn tlr1 tlr0 rti1 rti0 sds1 sds0 cdr1 cdr0 sdr1 sdr0 e1d1 e1d0 pdr1 pdr0 e2d1 e2d0 udr1 udr0
    sis1 sis0 cir1 cir0 sir1 sir0 e1i1 e1i0 pir1 pir0 e2i1 e2i0 uir1 uir0

theorem encode_select (q : TapState) (tms tdi : Bool) : encode (select q tms tdi) = stepCode q tms tdi := by
  rw [encode_eq_stepCode, home_select, tms_select, tdi_select]

theorem decodeCode_stepCode (q : TapState) (tms tdi : Bool) : decodeCode (stepCode q tms tdi) = select q tms tdi := by
  rw [decodeCode, stepCode_index, stepCode_tms, stepCode_tdi, ofIndex_index]

@[simp] theorem decodeCode_encode (i : Instr) : decodeCode (encode i) = i := by
  rw [encode_eq_stepCode, decodeCode_stepCode, select_fields]

@[simp] theorem encode_decodeCode (c : BitVec 6) : encode (decodeCode c) = c := by
  apply BitVec.eq_of_toNat_eq
  rw [decodeCode, encode_select, stepCode_toNat, index_ofIndex, ← code_toNat_eq_fields]

/-- The byte of an operation holds its step code in the low six bits, and any bytes may follow (log 12). -/
theorem decodeBytes_encodeBytes_append (i : Instr) (rest : List (BitVec 8)) :
    decodeBytes (encodeBytes i ++ rest) = .ok (i, rest) := by
  have hlow : ((encode i).setWidth 8).extractLsb' 0 6 = encode i := by
    rw [← BitVec.setWidth_eq_extractLsb' (by omega), BitVec.setWidth_setWidth_of_le _ (by omega), BitVec.setWidth_eq]
  rw [encodeBytes, List.singleton_append, decodeBytes, hlow, decodeCode_encode]

/-- As a table word of one byte, a step code is the byte of its operation. -/
theorem bytesOfNat_encode (i : Instr) : bytesOfNat ((8 + 7) / 8) ((encode i).toNat % 2 ^ 8) = encodeBytes i := by
  have hlt : (encode i).toNat < 2 ^ 8 := Nat.lt_trans (encode i).isLt (by decide)
  rw [Nat.mod_eq_of_lt hlt, encodeBytes, ← BitVec.ofNat_toNat]
  rfl

@[simp] theorem decodeTableWord_encode (i : Instr) : decodeTableWord 8 (encode i).toNat = some i := by
  rw [decodeTableWord, bytesOfNat_encode, ← List.append_nil (encodeBytes i), decodeBytes_encodeBytes_append]

/-- Settles O2: the step code is made of the three fields that select an operation, so packing and unpacking them are
inverse to each other. -/
theorem encodingRoundTrip : Obligations.EncodingRoundTrip :=
  ⟨fun i => ⟨decodeCode_encode i, decodeBytes_encodeBytes_append i, decodeTableWord_encode i⟩, encode_decodeCode⟩

/-- Settles O1: each word is evaluated by the decoder. -/
theorem writtenWordsDecode : Obligations.WrittenWordsDecode :=
  ⟨rfl, rfl, rfl, rfl, rfl, rfl, rfl⟩

/-- Settles O3: the packings of the stimulus word, of the harness byte and of the step code. -/
theorem stimulusPacking : Obligations.StimulusPacking :=
  ⟨fun tms tdi => ⟨stimTms_stimWord tms tdi, stimTdi_stimWord tms tdi, stimWord_toNat tms tdi⟩, stimWord_of_fields,
    fun b => ⟨stimOfByte_getLsbD b Nat.one_lt_two, stimOfByte_getLsbD b Nat.two_pos⟩, stepCode_toNat,
    stepCode_and_operandMask⟩

/-! ### Which operation a step runs -/

/-- Settles O4: the word decodes to the operation the edge selects, and its fields are those of the edge. -/
theorem stepRunsSelectedOperation : Obligations.StepRunsSelectedOperation := by
  intro s p rest i hs hr hi
  rw [decodeStim_stimWord] at hi
  subst hi
  exact ⟨home_select .., tms_select .., tdi_select .., encode_select .., step_edge hs hr⟩

theorem State.withFetchWord_encode (s : State) (i : Instr) :
    s.withFetchWord 8 (encode i).toNat = s.withCode (encode i) := by
  rw [State.withFetchWord, decodeTableWord_encode]

/-- The edge placed by `withCode` is that of the operation, in the operation's own State with reset deasserted. -/
theorem State.withCode_encode (s : State) (i : Instr) :
    s.withCode (encode i) =
      { s with
        state := i.home
        resetAsserted := false
        stimulus := .edge { s.inp with tms := i.tms, tdi := i.tdi } :: s.stimulus } := by
  rw [State.withCode, decodeCode_encode]

/-- Settles O5: the placed edge is the next move, and in the operation's own State it selects that operation again. -/
theorem placedOperationRunsNext : Obligations.PlacedOperationRunsNext := by
  intro s i
  rw [State.withFetchWord_encode, State.withCode_encode, step_edge rfl rfl, select_fields]
  rfl

/-- Settles O26: every operation runs in the one frame, which refuses outside its own State and under reset. -/
theorem unselectedOperationRefused : Obligations.UnselectedOperationRefused := by
  intro i s h
  rw [exec_eq_perform]
  exact State.perform_unselected h

/-! ### What an edge does not read -/

/-- The operands of an action: `tdi` in the Shift States, the capture input of its register in a Capture State
(30_encoding.md R78, R79). With these the same, the record after the action is the same. -/
theorem actionAt_record_of_agree {q : TapState} {tdi tdi' : Bool} {p p' : Inputs} (s : State)
    (htdi : q = .shiftDr ∨ q = .shiftIr → tdi = tdi') (hdr : q = .captureDr → p.drCapIn = p'.drCapIn)
    (hir : q = .captureIr → p.irCapIn = p'.irCapIn) :
    (actionAt q tdi (s.present p)).record = (actionAt q tdi' (s.present p')).record := by
  cases q with
  | shiftDr => rw [htdi (.inl rfl)]; rfl
  | shiftIr => rw [htdi (.inr rfl)]; rfl
  | captureDr => exact congrArg (fun c => { s.record with drSh := c }) (hdr rfl)
  | captureIr => exact congrArg (fun c => { s.record with irSh := c }) (hir rfl)
  | testLogicReset | runTestIdle | selectDrScan | exit1Dr | pauseDr | exit2Dr | updateDr | selectIrScan | exit1Ir
  | pauseIr | exit2Ir | updateIr => rfl

/-- Two edges with the same `tms` and the same operands of the current State leave the same record. -/
theorem State.afterEdge_record_of_agree {p p' : Inputs} (s : State) (htms : p.tms = p'.tms)
    (htdi : s.state = .shiftDr ∨ s.state = .shiftIr → p.tdi = p'.tdi)
    (hdr : s.state = .captureDr → p.drCapIn = p'.drCapIn) (hir : s.state = .captureIr → p.irCapIn = p'.irCapIn) :
    (s.afterEdge p).record = (s.afterEdge p').record := by
  rw [State.afterEdge, State.afterEdge, htms]
  exact congrArg (fun g : Record => { g with state := next s.state p'.tms })
    (actionAt_record_of_agree s htdi hdr hir)

theorem State.record_with_stimulus (s : State) (es : List Event) :
    State.record { s with stimulus := es } = s.record := rfl

/-- Which moves are still to come is not part of the record, and no edge reads it. -/
theorem State.afterEdge_record_with_stimulus (s : State) (p : Inputs) (es : List Event) :
    (State.afterEdge { s with stimulus := es } p).record = (s.afterEdge p).record := by
  rw [State.afterEdge_with_stimulus, State.record_with_stimulus]

/-- Settles O34: both edges complete, from the same record, with the same operands of the current State. -/
theorem unreadInputsAreIgnored : Obligations.UnreadInputsAreIgnored := by
  intro s p p' rest rest' hs hr htms htdi hdr hir
  refine ⟨_, _, step_eq_afterEdge hs hr, step_eq_afterEdge (s := { s with stimulus := .edge p' :: rest' }) rfl hr, ?_⟩
  calc (State.afterEdge { s with stimulus := rest } p).record
      = (s.afterEdge p).record := State.afterEdge_record_with_stimulus s p rest
    _ = (s.afterEdge p').record := State.afterEdge_record_of_agree s htms htdi hdr hir
    _ = (State.afterEdge { s with stimulus := rest' } p').record :=
        (State.afterEdge_record_with_stimulus s p' rest').symm

end Sys2Proof.Machine
end

section
/-! PROOFS. The scans of 30_encoding.md R81: to the Shift State with a capture on the way, the bits through the shift
stage, and back over Update. Both scans have this shape, so the parts are proved for a `Path`. -/

namespace Sys2Proof.Machine

/-! ### The parts of a scan and what they write -/

/-- The edges of a scan before its bits: from RunTestIdle over Select and Capture to the Shift State. -/
def selectEdges (cap : Inputs) : Path → List Inputs
  | .dr => [pins cap true false, pins cap false false, pins cap false false]
  | .ir => [pins cap true false, pins cap true false, pins cap false false, pins cap false false]

/-- The edges of a scan after its bits: from Exit1 over Update to RunTestIdle. -/
def updateEdges (cap : Inputs) : List Inputs := [pins cap true false, pins cap false false]

theorem drScan_eq (cap : Inputs) (bs : List Bool) :
    drScan cap bs = selectEdges cap .dr ++ scanBits cap bs ++ updateEdges cap := rfl

theorem irScan_eq (cap : Inputs) (bs : List Bool) :
    irScan cap bs = selectEdges cap .ir ++ scanBits cap bs ++ updateEdges cap := rfl

theorem scanBits_length (cap : Inputs) (bs : List Bool) : (scanBits cap bs).length = bs.length := by
  fun_induction scanBits cap bs with
  | case1 => rfl
  | case2 b => rfl
  | case3 b b' bs ih => rw [List.length_cons, ih, List.length_cons (a := b)]

theorem drScan_length (cap : Inputs) (bs : List Bool) : (drScan cap bs).length = bs.length + 5 := by
  simp [drScan, scanBits_length]

theorem irScan_length (cap : Inputs) (bs : List Bool) : (irScan cap bs).length = bs.length + 6 := by
  simp [irScan, scanBits_length]

/-- The State left with `tms = 1` from the Shift State of a path. -/
def exit1At : Path → TapState
  | .dr => .exit1Dr
  | .ir => .exit1Ir

/-- The record with another State, shift stage of the path and level on `tdo`: all that Select to Exit1 can write. -/
def Record.scanned (r : Path) (q : TapState) (c : Bits) (o : Bool) (g : Record) : Record :=
  match r with
  | .dr => { g with state := q, drSh := c, tdo := o }
  | .ir => { g with state := q, irSh := c, tdo := o }

/-- The record with the shift stage of the path committed, in RunTestIdle. -/
def Record.committed (r : Path) (g : Record) : Record :=
  match r with
  | .dr => { g with state := .runTestIdle, drHold := g.drSh }
  | .ir => { g with state := .runTestIdle, irHold := g.irSh }

theorem Record.scanned_scanned (r : Path) (q q' : TapState) (c c' : Bits) (o o' : Bool) (g : Record) :
    (g.scanned r q c o).scanned r q' c' o' = g.scanned r q' c' o' := by
  cases r <;> rfl

theorem State.fields_of_scanned {r : Path} {s : State} {q : TapState} {c : Bits} {o : Bool} {g : Record}
    (h : s.record = g.scanned r q c o) : s.state = q ∧ s.stage r = c := by
  cases r with
  | dr => exact ⟨congrArg Record.state h, congrArg Record.drSh h⟩
  | ir => exact ⟨congrArg Record.state h, congrArg Record.irSh h⟩

/-! ### The record after each part -/

theorem State.afterEdges_append (s : State) (ps qs : List Inputs) :
    s.afterEdges (ps ++ qs) = (s.afterEdges ps).afterEdges qs :=
  List.foldl_append

/-- The edges before the bits write the captured value to the shift stage, and nothing else but the State. -/
theorem State.afterEdges_selectEdges {s : State} (r : Path) (cap : Inputs) (h : s.state = .runTestIdle) :
    (s.afterEdges (selectEdges cap r)).record =
      s.record.scanned r (shiftAt r) ((s.present cap).captureOperand r) s.tdo := by
  obtain ⟨q, irSh, irHold, drSh, drHold, tdo, reset, inp, es⟩ := s
  obtain rfl : q = .runTestIdle := h
  cases r <;> rfl

theorem State.afterEdge_record_of_shift {r : Path} {s : State} (h : s.state = shiftAt r) (p : Inputs) :
    (s.afterEdge p).record =
      s.record.scanned r (next (shiftAt r) p.tms) (shiftIn p.tdi (s.stage r)) (shiftOut (s.stage r)) := by
  rw [State.afterEdge, h, actionAt_shiftAt]
  cases r <;> rfl

theorem next_shiftAt_false (r : Path) : next (shiftAt r) false = shiftAt r := by
  cases r <;> rfl

theorem next_shiftAt_true (r : Path) : next (shiftAt r) true = exit1At r := by
  cases r <;> rfl

/-- The bits of a scan: every edge is a shift, so the stage and `tdo` obey the content law, and the last edge leaves to
Exit1 (41_shift_register_path.md R167). -/
theorem State.afterEdges_scanBits {r : Path} {s : State} (cap : Inputs) {bs : List Bool} (hbs : bs ≠ [])
    (h : s.state = shiftAt r) (hne : s.stage r ≠ []) :
    (s.afterEdges (scanBits cap bs)).record =
      s.record.scanned r (exit1At r) ((s.stage r ++ bs).drop bs.length) (latestOut s.tdo (s.stage r) bs) := by
  fun_induction scanBits cap bs generalizing s with
  | case1 => exact absurd rfl hbs
  | case2 b =>
    rw [State.afterEdges_cons, State.afterEdges_nil, State.afterEdge_record_of_shift h, ← drop_shiftIn_append hne,
      ← latestOut_shiftIn hne, latestOut_nil, ← next_shiftAt_true, List.append_nil, List.length_nil, List.drop_zero]
    rfl
  | case3 b b' bs ih =>
    have hstate : (s.afterEdge (pins cap false b)).state = shiftAt r := by
      rw [State.afterEdge_state, h]
      exact next_shiftAt_false r
    have hstage : (s.afterEdge (pins cap false b)).stage r = shiftIn b (s.stage r) :=
      State.afterEdge_stage_of_shift h _
    rw [State.afterEdges_cons, ih (List.cons_ne_nil b' bs) hstate (hstage ▸ shiftIn_ne_nil b _), hstage,
      State.afterEdge_tdo_of_shift h, latestOut_shiftIn hne s.tdo, drop_shiftIn_append hne,
      State.afterEdge_record_of_shift h, Record.scanned_scanned]

theorem State.afterEdges_updateEdges {r : Path} {s : State} (cap : Inputs) (h : s.state = exit1At r) :
    (s.afterEdges (updateEdges cap)).record = s.record.committed r := by
  obtain ⟨q, irSh, irHold, drSh, drHold, tdo, reset, inp, es⟩ := s
  obtain rfl : q = exit1At r := h
  cases r <;> rfl

/-! ### A whole scan -/

theorem latestOut_of_ne_nil {d : Bits} (hd : d ≠ []) (o : Bool) (c : Bits) :
    latestOut o c d = (c ++ d).getD (d.length - 1) false :=
  if_neg hd

/-- A scan of either register: the content law's value in both stages, and the latest bit out on `tdo`. -/
theorem State.afterEdges_scan {s : State} (r : Path) (cap : Inputs) {bs : List Bool} (hbs : bs ≠ [])
    (hcap : (s.present cap).captureOperand r ≠ []) (h : s.state = .runTestIdle) :
    (s.afterEdges (selectEdges cap r ++ scanBits cap bs ++ updateEdges cap)).record =
      (s.record.scanned r (exit1At r) (((s.present cap).captureOperand r ++ bs).drop bs.length)
        (((s.present cap).captureOperand r ++ bs).getD (bs.length - 1) false)).committed r := by
  have hselect := State.afterEdges_selectEdges r cap h
  obtain ⟨hstate, hstage⟩ := State.fields_of_scanned hselect
  have hbits := State.afterEdges_scanBits cap hbs hstate (hstage ▸ hcap)
  rw [hselect, hstage, Record.scanned_scanned, latestOut_of_ne_nil hbs] at hbits
  obtain ⟨hexit, -⟩ := State.fields_of_scanned hbits
  rw [State.afterEdges_append, State.afterEdges_append, State.afterEdges_updateEdges cap hexit, hbits]

/-- Settles O46: the scan of the IR is one of the two scans, and it ends in the State it began in. -/
theorem irScanCommits : Obligations.IrScanCommits := by
  intro bs cap s rest hbs hcap hs hr h
  refine ⟨_, irScan_length cap bs ▸ runsTo_afterEdges hs hr, rfl, ?_⟩
  rw [State.record_with_stimulus, irScan_eq, State.afterEdges_scan .ir cap hbs hcap h,
    Record.committed, Record.scanned, ← h]
  rfl

/-- Settles O47: the scan of the DR is the other one. -/
theorem drScanCommits : Obligations.DrScanCommits := by
  intro bs cap s rest hbs hcap hs hr h
  refine ⟨_, drScan_length cap bs ▸ runsTo_afterEdges hs hr, rfl, ?_⟩
  rw [State.record_with_stimulus, drScan_eq, State.afterEdges_scan .dr cap hbs hcap h,
    Record.committed, Record.scanned, ← h]
  rfl

end Sys2Proof.Machine
end

section
/-! PROOFS. The graph of the TAP state machine (40_tap_state_machine.md section 2): its 32 transitions as a finite list,
the tables the spec prints over its States, distances in it, and convergence under `tms = 1`. -/

namespace Sys2Proof.Machine

/-! ### The States and the transitions as lists -/

/-- The 16 States in the order of 00_scope.md R14. -/
def allStates : List TapState :=
  [.testLogicReset, .runTestIdle, .selectDrScan, .captureDr, .shiftDr, .exit1Dr, .pauseDr, .exit2Dr, .updateDr,
    .selectIrScan, .captureIr, .shiftIr, .exit1Ir, .pauseIr, .exit2Ir, .updateIr]

/-- The 32 transitions: a current State and a `tms`. -/
def transitions : List (TapState × Bool) := allStates ×ˢ [true, false]

theorem mem_allStates (q : TapState) : q ∈ allStates := by
  cases q <;> decide

theorem mem_transitions (q : TapState) (tms : Bool) : (q, tms) ∈ transitions :=
  List.mem_product.mpr ⟨mem_allStates q, by cases tms <;> decide⟩

/-- What holds of the 32 transitions one by one holds of every one. -/
theorem forall_transition {P : TapState × Bool → Prop} (h : ∀ e ∈ transitions, P e) (q : TapState) (tms : Bool) :
    P (q, tms) :=
  h _ (mem_transitions q tms)

/-- A property of transitions is the list of those that have it. -/
theorem mem_iff_of_filter_transitions {P : TapState × Bool → Prop} [DecidablePred P] {es : List (TapState × Bool)}
    (h : transitions.filter P = es) (q : TapState) (tms : Bool) : P (q, tms) ↔ (q, tms) ∈ es := by
  rw [← h, List.mem_filter, decide_eq_true_iff]
  exact (and_iff_right (mem_transitions q tms)).symm

/-- A table with one row per State, in the order of the States, is right if the row of every State is. -/
theorem forall_row_of_table {α : Type} {rows : List (TapState × α)} (f : TapState → α)
    (hrows : rows = allStates.map fun q => (q, f q)) {P : TapState × α → Prop} (hP : ∀ q, P (q, f q)) :
    (∀ r ∈ rows, P r) ∧ ∀ q : TapState, ∃ r ∈ rows, r.1 = q := by
  subst hrows
  exact ⟨List.forall_mem_map.mpr fun q _ => hP q, fun q => ⟨_, List.mem_map_of_mem (mem_allStates q), rfl⟩⟩

/-! ### The printed tables -/

/-- Settles O10: the printed table is that of the two successors of every State. -/
theorem transitionTable : Obligations.TransitionTable :=
  forall_row_of_table (fun q => (next q true, next q false)) rfl fun _ => ⟨rfl, rfl⟩

/-- Settles O11: of the 32 transitions the six listed are those that lead where they started. -/
theorem selfLoopsAreSix : Obligations.SelfLoopsAreSix :=
  mem_iff_of_filter_transitions (P := fun e => next e.1 e.2 = e.1) (by decide)

/-- The transitions that lead to a State. -/
def predecessors (q' : TapState) : List (TapState × Bool) := transitions.filter fun e => next e.1 e.2 = q'

theorem mem_predecessors (q' q : TapState) (tms : Bool) : next q tms = q' ↔ (q, tms) ∈ predecessors q' :=
  mem_iff_of_filter_transitions (P := fun e => next e.1 e.2 = q') rfl q tms

/-- Settles O12: the printed lists are the predecessors, found by going through the transitions. -/
theorem predecessorTable : Obligations.PredecessorTable :=
  forall_row_of_table predecessors (by decide) mem_predecessors

/-! ### The two paths -/

theorem path_mirror {q : TapState} (h : TapState.path q = some .dr) : TapState.path (mirror q) = some .ir := by
  cases q with
  | selectDrScan | captureDr | shiftDr | exit1Dr | pauseDr | exit2Dr | updateDr => rfl
  | testLogicReset | runTestIdle => nomatch h
  | selectIrScan | captureIr | shiftIr | exit1Ir | pauseIr | exit2Ir | updateIr => nomatch h

/-- A transition within the DR path is the same transition of the IR path under other names; UpdateDr does not count,
because both Update States go to the same SelectDrScan (40_tap_state_machine.md R142). -/
theorem next_mirror {q : TapState} {tms : Bool} (h : TapState.path q = some .dr)
    (hn : TapState.path (next q tms) = some .dr) (hu : q ≠ .updateDr) :
    next (mirror q) tms = mirror (next q tms) := by
  cases q with
  | updateDr => exact absurd rfl hu
  | selectDrScan =>
    cases tms with
    | true => exact absurd hn (by decide)
    | false => rfl
  | captureDr | shiftDr | exit1Dr | pauseDr | exit2Dr => cases tms <;> rfl
  | testLogicReset | runTestIdle => nomatch h
  | selectIrScan | captureIr | shiftIr | exit1Ir | pauseIr | exit2Ir | updateIr => nomatch h

/-- The one operation that leads from the DR path to the IR path. -/
theorem dr_to_ir_iff (q : TapState) (tms : Bool) :
    TapState.path q = some .dr ∧ TapState.path (next q tms) = some .ir ↔ (q, tms) = (.selectDrScan, true) := by
  have hlist : transitions.filter (fun e => TapState.path e.1 = some .dr ∧ TapState.path (next e.1 e.2) = some .ir)
      = [(.selectDrScan, true)] := by decide
  exact (mem_iff_of_filter_transitions hlist q tms).trans List.mem_singleton

/-- The one operation that leads back. -/
theorem ir_to_dr_iff (q : TapState) (tms : Bool) :
    TapState.path q = some .ir ∧ TapState.path (next q tms) = some .dr ↔ (q, tms) = (.updateIr, true) := by
  have hlist : transitions.filter (fun e => TapState.path e.1 = some .ir ∧ TapState.path (next e.1 e.2) = some .dr)
      = [(.updateIr, true)] := by decide
  exact (mem_iff_of_filter_transitions hlist q tms).trans List.mem_singleton

/-- Settles O13: the renaming carries the transitions over, and the entrances and ways out are those printed. -/
theorem pathsHaveTheSameShape : Obligations.PathsHaveTheSameShape :=
  ⟨fun _ _ h hn hu => ⟨next_mirror h hn hu, path_mirror h⟩, rfl, rfl, fun tms => by cases tms <;> rfl, rfl, rfl,
    dr_to_ir_iff, ir_to_dr_iff⟩

/-! ### Convergence under `tms = 1` -/

/-- One edge with `tms = 1`. -/
def tmsOne (q : TapState) : TapState := next q true

/-- The number of `tms = 1` edges from a State to TestLogicReset (40_tap_state_machine.md R138, last column). -/
def edgesToReset : TapState → Nat
  | .testLogicReset => 0
  | .selectIrScan => 1
  | .selectDrScan => 2
  | .runTestIdle | .updateDr | .updateIr => 3
  | .exit1Dr | .exit2Dr | .exit1Ir | .exit2Ir => 4
  | .captureDr | .shiftDr | .pauseDr | .captureIr | .shiftIr | .pauseIr => 5

theorem edgesToReset_eq_zero_iff (q : TapState) : edgesToReset q = 0 ↔ q = .testLogicReset := by
  cases q <;> simp [edgesToReset]

theorem edgesToReset_eq_one_iff (q : TapState) : edgesToReset q = 1 ↔ q = .selectIrScan := by
  cases q <;> simp [edgesToReset]

theorem edgesToReset_le_five (q : TapState) : edgesToReset q ≤ 5 := by
  cases q <;> decide

/-- Every `tms = 1` edge is one edge nearer to TestLogicReset, until the machine is there. -/
theorem edgesToReset_tmsOne (q : TapState) : edgesToReset (tmsOne q) = edgesToReset q - 1 := by
  cases q <;> rfl

theorem edgesToReset_iterate (k : Nat) (q : TapState) : edgesToReset (tmsOne^[k] q) = edgesToReset q - k := by
  induction k with
  | zero => rfl
  | succ k ih => rw [Function.iterate_succ_apply', edgesToReset_tmsOne, ih, Nat.sub_sub]

/-- The machine is in TestLogicReset after `k` edges with `tms = 1` exactly if these are enough. -/
theorem iterate_tmsOne_eq_reset_iff {k : Nat} {q : TapState} :
    tmsOne^[k] q = .testLogicReset ↔ edgesToReset q ≤ k := by
  rw [← edgesToReset_eq_zero_iff, edgesToReset_iterate, Nat.sub_eq_zero_iff_le]

/-- From a State that needs `k + 1` edges, `k` edges lead to the last State before TestLogicReset. -/
theorem iterate_tmsOne_eq_selectIrScan {k : Nat} {q : TapState} (h : edgesToReset q = k + 1) :
    tmsOne^[k] q = .selectIrScan := by
  rw [← edgesToReset_eq_one_iff, edgesToReset_iterate, h, Nat.add_sub_cancel_left]

/-- Settles O14: the printed trajectories are those of `next`, and the count of edges is exact at every State. -/
theorem tmsOneTrajectories : Obligations.TmsOneTrajectories :=
  forall_row_of_table
    (fun q => ([tmsOne q, tmsOne^[2] q, tmsOne^[3] q, tmsOne^[4] q, tmsOne^[5] q], edgesToReset q)) rfl
    fun _ => ⟨rfl, iterate_tmsOne_eq_reset_iff.mpr le_rfl,
      fun _ hk h => Nat.not_le.mpr hk (iterate_tmsOne_eq_reset_iff.mp h)⟩

theorem walk_of_tms_true {ps : List Inputs} (q : TapState) (h : ∀ p ∈ ps, p.tms = true) :
    walk q ps = tmsOne^[ps.length] q := by
  induction ps generalizing q with
  | nil => rfl
  | cons p ps ih =>
    obtain ⟨hp, hps⟩ := List.forall_mem_cons.mp h
    calc walk q (p :: ps) = walk (next q p.tms) ps := rfl
      _ = walk (tmsOne q) ps := by rw [hp, tmsOne]
      _ = tmsOne^[ps.length] (tmsOne q) := ih (tmsOne q) hps

/-- Settles O38: the run of the edges is a walk in the graph; no State needs more than five `tms = 1` edges, and the six
listed need all five. -/
theorem fiveTmsOnesReset : Obligations.FiveTmsOnesReset := by
  intro ps s rest hs hr htms
  have hrun := runsTo_afterEdges hs hr
  have hstate : (s.afterEdges ps).state = tmsOne^[ps.length] s.state :=
    (State.afterEdges_state s ps).trans (walk_of_tms_true s.state htms)
  refine ⟨fun hlen => ⟨_, hrun, ?_, rfl⟩, fun hlen hmem => ⟨_, hlen ▸ hrun, ?_⟩⟩
  · exact hstate.trans (iterate_tmsOne_eq_reset_iff.mpr ((edgesToReset_le_five s.state).trans hlen))
  · have hfive : ∀ q ∈ [TapState.captureDr, .shiftDr, .pauseDr, .captureIr, .shiftIr, .pauseIr],
        edgesToReset q = 4 + 1 := by decide
    rw [hlen] at hstate
    exact hstate.trans (iterate_tmsOne_eq_selectIrScan (hfive s.state hmem))

/-! ### Shortest `tms` strings -/

/-- The `tms` string of 40_tap_state_machine.md R139 from RunTestIdle to a State. -/
def stringFromIdle : TapState → List Bool
  | .testLogicReset => [true, true, true]
  | .runTestIdle => []
  | .selectDrScan => [true]
  | .captureDr => [true, false]
  | .shiftDr => [true, false, false]
  | .exit1Dr => [true, false, true]
  | .pauseDr => [true, false, true, false]
  | .exit2Dr => [true, false, true, false, true]
  | .updateDr => [true, false, true, true]
  | .selectIrScan => [true, true]
  | .captureIr => [true, true, false]
  | .shiftIr => [true, true, false, false]
  | .exit1Ir => [true, true, false, true]
  | .pauseIr => [true, true, false, true, false]
  | .exit2Ir => [true, true, false, true, false, true]
  | .updateIr => [true, true, false, true, true]

/-- The string from TestLogicReset: to any other State the way leads over RunTestIdle. -/
def stringFromReset (q : TapState) : List Bool :=
  if q = .testLogicReset then [] else false :: stringFromIdle q

theorem foldl_stringFromIdle (q : TapState) : (stringFromIdle q).foldl next .runTestIdle = q := by
  cases q <;> rfl

theorem foldl_stringFromReset (q : TapState) : (stringFromReset q).foldl next .testLogicReset = q := by
  by_cases h : q = .testLogicReset
  · rw [stringFromReset, if_pos h, h]
    rfl
  · rw [stringFromReset, if_neg h]
    exact foldl_stringFromIdle q

/-- No edge gains more than one: the printed length grows by at most one along a transition. -/
theorem length_stringFromIdle_next (q : TapState) (tms : Bool) :
    (stringFromIdle (next q tms)).length ≤ (stringFromIdle q).length + 1 :=
  forall_transition (P := fun e => (stringFromIdle (next e.1 e.2)).length ≤ (stringFromIdle e.1).length + 1)
    (by decide) q tms

theorem length_stringFromReset_next (q : TapState) (tms : Bool) :
    (stringFromReset (next q tms)).length ≤ (stringFromReset q).length + 1 :=
  forall_transition (P := fun e => (stringFromReset (next e.1 e.2)).length ≤ (stringFromReset e.1).length + 1)
    (by decide) q tms

/-- A quantity that an edge raises by at most one is raised by a string by at most its length. -/
theorem foldl_next_le {d : TapState → Nat} (h : ∀ q tms, d (next q tms) ≤ d q + 1) (q : TapState) (ts : List Bool) :
    d (ts.foldl next q) ≤ d q + ts.length := by
  induction ts generalizing q with
  | nil => exact le_rfl
  | cons tms ts ih =>
    calc d (ts.foldl next (next q tms)) ≤ d (next q tms) + ts.length := ih (next q tms)
      _ ≤ d q + 1 + ts.length := Nat.add_le_add_right (h q tms) _
      _ = d q + (tms :: ts).length := by rw [List.length_cons, Nat.add_assoc, Nat.add_comm 1]

/-- So a State at `d = n` is at least `n` edges from one at `d = 0`. -/
theorem le_length_of_foldl_next {d : TapState → Nat} (h : ∀ q tms, d (next q tms) ≤ d q + 1) {q q' : TapState}
    {ts : List Bool} (hq : d q = 0) (hts : ts.foldl next q = q') : d q' ≤ ts.length := by
  have hle := foldl_next_le h q ts
  rwa [hts, hq, Nat.zero_add] at hle

theorem length_stringFromIdle_le {q : TapState} {ts : List Bool} (h : ts.foldl next .runTestIdle = q) :
    (stringFromIdle q).length ≤ ts.length :=
  le_length_of_foldl_next (d := fun q => (stringFromIdle q).length) length_stringFromIdle_next rfl h

theorem length_stringFromReset_le {q : TapState} {ts : List Bool} (h : ts.foldl next .testLogicReset = q) :
    (stringFromReset q).length ≤ ts.length :=
  le_length_of_foldl_next (d := fun q => (stringFromReset q).length) length_stringFromReset_next rfl h

theorem foldl_next_replicate_true (k : Nat) (q : TapState) :
    (List.replicate k true).foldl next q = tmsOne^[k] q := by
  induction k generalizing q with
  | zero => rfl
  | succ k ih => exact ih (tmsOne q)

/-- Strongly connected: five `tms = 1` edges lead to TestLogicReset, and from there every State can be reached. -/
theorem exists_string_between (q q' : TapState) : ∃ ts : List Bool, ts.foldl next q = q' := by
  refine ⟨List.replicate 5 true ++ stringFromReset q', ?_⟩
  rw [List.foldl_append, foldl_next_replicate_true, iterate_tmsOne_eq_reset_iff.mpr (edgesToReset_le_five q),
    foldl_stringFromReset]

/-- Settles O15: the printed strings lead to their States, and since an edge gains at most one, none is shorter. -/
theorem shortestTmsStrings : Obligations.ShortestTmsStrings :=
  and_assoc.mp
    ⟨forall_row_of_table (fun q => (stringFromReset q, stringFromIdle q)) rfl fun q =>
      ⟨foldl_stringFromReset q, foldl_stringFromIdle q, fun _ => length_stringFromReset_le,
        fun _ => length_stringFromIdle_le⟩,
      exists_string_between⟩

end Sys2Proof.Machine
end

section
/-! PROOFS. The 32 operations of 40_tap_state_machine.md section 2 run in their States: what each answers, that the State
is all an edge carries over, and which operations keep the record. -/

namespace Sys2Proof.Machine

/-! ### An operation in its own State completes -/

/-- An operation in its State with reset deasserted completes, with the action of the State and then its successor
(42_controller_step.md R183). -/
theorem exec_selected {i : Instr} {s : State} (h : s.state = i.home) (hr : s.resetAsserted = false) :
    exec i s = .next ((actionAt i.home i.tdi s).goTo (next i.home i.tms)) := by
  rw [exec_eq_perform]
  exact State.perform_selected h hr

theorem State.goTo_of_state {q : TapState} {s : State} (h : s.state = q) : s.goTo q = s := by
  subst h
  rfl

/-- An operation that holds and leads back to its own State changes nothing at all. -/
theorem exec_of_hold_loop {i : Instr} {s : State} (h : s.state = i.home) (hr : s.resetAsserted = false)
    (hact : actionAt i.home i.tdi = State.hold) (hloop : next i.home i.tms = i.home) : exec i s = .next s := by
  rw [exec_selected h hr, hact, hloop]
  exact congrArg Host.Outcome.next (State.goTo_of_state h)

/-- Settles O19: two of the four operations change the State, two nothing. -/
theorem testIdleOperationsRun : Obligations.TestIdleOperationsRun := fun _ _ hr =>
  ⟨fun h => ⟨exec_of_hold_loop h hr rfl rfl, exec_selected h hr⟩,
    fun h => ⟨exec_selected h hr, exec_of_hold_loop h hr rfl rfl⟩⟩

/-- Settles O20: the actions are holds, and `PDR/0` stays. -/
theorem drHoldOperationsRun : Obligations.DrHoldOperationsRun := fun _ _ hr =>
  ⟨fun h => ⟨exec_selected h hr, exec_selected h hr⟩, fun h => ⟨exec_selected h hr, exec_selected h hr⟩,
    fun h => ⟨exec_selected h hr, exec_of_hold_loop h hr rfl rfl⟩,
    fun h => ⟨exec_selected h hr, exec_selected h hr⟩⟩

/-- Settles O21: the actions are holds, and `PIR/0` stays. -/
theorem irHoldOperationsRun : Obligations.IrHoldOperationsRun := fun _ _ hr =>
  ⟨fun h => ⟨exec_selected h hr, exec_selected h hr⟩, fun h => ⟨exec_selected h hr, exec_selected h hr⟩,
    fun h => ⟨exec_selected h hr, exec_of_hold_loop h hr rfl rfl⟩,
    fun h => ⟨exec_selected h hr, exec_selected h hr⟩⟩

/-- Settles O22: the actions are the captures of the two paths. -/
theorem captureOperationsRun : Obligations.CaptureOperationsRun := fun _ _ hr =>
  ⟨fun h => ⟨exec_selected h hr, exec_selected h hr⟩, fun h => ⟨exec_selected h hr, exec_selected h hr⟩⟩

/-- Settles O25: the actions are the updates of the two paths. -/
theorem updateOperationsRun : Obligations.UpdateOperationsRun := fun _ _ hr =>
  ⟨fun h => ⟨exec_selected h hr, exec_selected h hr⟩, fun h => ⟨exec_selected h hr, exec_selected h hr⟩⟩

/-! ### The shift operations, bit by bit -/

theorem getElem?_zero_eq_shiftOut {sh : Bits} (h : sh ≠ []) : sh[0]? = some (shiftOut sh) := by
  cases sh with
  | nil => exact absurd rfl h
  | cons a l => rfl

/-- Every bit but the lowest moves one index down (20_memory.md R52). -/
theorem shiftIn_getElem?_of_lt {sh : Bits} (tdi : Bool) {k : Nat} (h : k + 1 < sh.length) :
    (shiftIn tdi sh)[k]? = sh[k + 1]? := by
  rw [shiftIn, List.getElem?_append_left (by rw [List.length_tail]; omega), List.getElem?_tail]

/-- The bit from `tdi` enters at the highest index (20_memory.md R52). -/
theorem shiftIn_getElem?_last (tdi : Bool) (sh : Bits) : (shiftIn tdi sh)[sh.length - 1]? = some tdi := by
  rw [shiftIn, ← List.length_tail, List.getElem?_concat_length]

/-- Settles O23: both operations shift the DR and differ in the successor, and the shift moves each bit as stated. -/
theorem shiftDrOperationsRun : Obligations.ShiftDrOperationsRun := by
  intro tdi s i q h hr hne hi
  have hrun : exec i s = .next ((s.shift .dr tdi).goTo q) := by
    obtain ⟨rfl, rfl⟩ | ⟨rfl, rfl⟩ := hi
    · exact exec_selected h hr
    · exact exec_selected h hr
  exact ⟨_, hrun, getElem?_zero_eq_shiftOut hne, shiftIn_length tdi hne, fun _ => shiftIn_getElem?_of_lt tdi,
    shiftIn_getElem?_last tdi s.drSh, rfl⟩

/-- Settles O24: the same for the IR. -/
theorem shiftIrOperationsRun : Obligations.ShiftIrOperationsRun := by
  intro tdi s i q h hr hne hi
  have hrun : exec i s = .next ((s.shift .ir tdi).goTo q) := by
    obtain ⟨rfl, rfl⟩ | ⟨rfl, rfl⟩ := hi
    · exact exec_selected h hr
    · exact exec_selected h hr
  exact ⟨_, hrun, getElem?_zero_eq_shiftOut hne, shiftIn_length tdi hne, fun _ => shiftIn_getElem?_of_lt tdi,
    shiftIn_getElem?_last tdi s.irSh, rfl⟩

/-! ### What the next State depends on, and when it changes -/

/-- Settles O30: both edges complete, in `next` of the State and `tms` they share. -/
theorem noHiddenHistory : Obligations.NoHiddenHistory := by
  intro s s' p p' rest rest' hs hs' hr hr' hstate htms
  exact ⟨_, _, step_eq_afterEdge hs hr, step_eq_afterEdge hs' hr', congrArg₂ next hstate htms⟩

/-- The State, `tms` and `tdi` of an edge name exactly one operation (30_encoding.md R74). -/
theorem fields_eq_iff_eq_select {j : Instr} {q : TapState} {tms tdi : Bool} :
    j.home = q ∧ j.tms = tms ∧ j.tdi = tdi ↔ j = select q tms tdi := by
  constructor
  · rintro ⟨rfl, rfl, rfl⟩
    exact (select_fields j).symm
  · rintro rfl
    exact ⟨home_select .., tms_select .., tdi_select ..⟩

theorem eq_select_of_fields {i : Instr} {q : TapState} {tms : Bool} (hq : i.home = q) (ht : i.tms = tms) :
    i = select q tms i.tdi :=
  fields_eq_iff_eq_select.mp ⟨hq, ht, rfl⟩

/-- Settles O31: of the moves only an edge with reset deasserted and AssertReset write the State, and such an edge runs
the one operation its State, `tms` and `tdi` name. -/
theorem stateChangesOnlyAtEdgeOrReset : Obligations.StateChangesOnlyAtEdgeOrReset := by
  refine ⟨fun s t hstep hne => ?_, fun s p rest hs hr => ⟨_, step_edge hs hr, fun _ => fields_eq_iff_eq_select⟩⟩
  obtain ⟨-, rfl⟩ | ⟨rest, hs, rfl⟩ | ⟨rest, -, rfl⟩ | ⟨p, rest, -, -, rfl⟩ | ⟨p, rest, hs, hr, -⟩ := step_cases hstep
  · exact absurd rfl hne
  · exact .inr ⟨rest, hs, rfl⟩
  · exact absurd rfl hne
  · exact absurd rfl hne
  · obtain rfl := Host.Outcome.next.inj ((step_eq_afterEdge hs hr).symm.trans hstep)
    exact .inl ⟨p, rest, hs, hr, rfl⟩

/-! ### Which operations keep the record -/

/-- All an idle edge leaves behind is its levels on the ports, which are not part of the record. -/
theorem State.afterEdge_of_idle {s : State} {p : Inputs} (h : s.state = .runTestIdle) (htms : p.tms = false) :
    s.afterEdge p = s.present p := by
  rw [State.afterEdge, h, htms]
  exact State.goTo_of_state h

theorem State.afterEdges_record_of_idle {s : State} {ps : List Inputs} (h : s.state = .runTestIdle)
    (htms : ∀ p ∈ ps, p.tms = false) : (s.afterEdges ps).record = s.record := by
  induction ps generalizing s with
  | nil => rfl
  | cons p ps ih =>
    obtain ⟨hp, hps⟩ := List.forall_mem_cons.mp htms
    rw [State.afterEdges_cons, State.afterEdge_of_idle h hp]
    exact ih (s := s.present p) h hps

/-- The operation leaves the record of every state that selects it. -/
def KeepsRecord (i : Instr) : Prop :=
  ∀ s : State, s.selects i.home = true → ∃ t, exec i s = .next t ∧ t.record = s.record

/-- A state with current State `q` and one bit, `b`, in both shift stages. -/
def oneBitState (q : TapState) (b : Bool) : State :=
  (State.powerUp [b] [b] [b] [b] { tms := false, tdi := false, irCapIn := [b], drCapIn := [b] } []).goTo q

theorem oneBitState_stage (r : Path) (q : TapState) (b : Bool) : (oneBitState q b).stage r = [b] := by
  cases r <;> rfl

theorem record_of_keepsRecord {i : Instr} (h : KeepsRecord i) (b : Bool) :
    ((actionAt i.home i.tdi (oneBitState i.home b)).goTo (next i.home i.tms)).record =
      (oneBitState i.home b).record := by
  obtain ⟨t, hexec, hrec⟩ := h (oneBitState i.home b) (State.selects_iff.mpr ⟨rfl, rfl⟩)
  rw [exec_selected rfl rfl] at hexec
  rwa [← Host.Outcome.next.inj hexec] at hrec

theorem next_of_keepsRecord {i : Instr} (h : KeepsRecord i) : next i.home i.tms = i.home :=
  congrArg Record.state (record_of_keepsRecord h false)

theorem State.stage_eq_of_record_eq {s t : State} (h : s.record = t.record) (r : Path) : s.stage r = t.stage r := by
  cases r with
  | dr => exact congrArg Record.drSh h
  | ir => exact congrArg Record.irSh h

/-- A shift edge does not keep the record: the bit it shifts into a one-bit stage may be another than the one there. -/
theorem ne_shiftAt_of_keepsRecord {i : Instr} (h : KeepsRecord i) (r : Path) : i.home ≠ shiftAt r := by
  intro hsh
  have hstage := State.stage_eq_of_record_eq (record_of_keepsRecord h !i.tdi) r
  rw [State.goTo_stage, hsh, actionAt_shiftAt, State.shift_stage, oneBitState_stage] at hstage
  exact Bool.not_ne_self i.tdi (List.cons.inj hstage).1.symm

/-- The four operations that stay in their State without a shift. -/
theorem keepsRecord_iff (i : Instr) :
    KeepsRecord i ↔ i ∈ [Instr.tlr1 i.tdi, .rti0 i.tdi, .pdr0 i.tdi, .pir0 i.tdi] := by
  constructor
  · intro h
    have hloop := (selfLoopsAreSix i.home i.tms).mp (next_of_keepsRecord h)
    simp only [List.mem_cons, List.not_mem_nil, or_false, Prod.mk.injEq] at hloop ⊢
    obtain ⟨hq, ht⟩ | ⟨hq, ht⟩ | ⟨hq, -⟩ | ⟨hq, ht⟩ | ⟨hq, -⟩ | ⟨hq, ht⟩ := hloop
    · exact .inl (eq_select_of_fields hq ht)
    · exact .inr (.inl (eq_select_of_fields hq ht))
    · exact absurd hq (ne_shiftAt_of_keepsRecord h .dr)
    · exact .inr (.inr (.inl (eq_select_of_fields hq ht)))
    · exact absurd hq (ne_shiftAt_of_keepsRecord h .ir)
    · exact .inr (.inr (.inr (eq_select_of_fields hq ht)))
  · intro hmem s hsel
    obtain ⟨h, hr⟩ := State.selects_iff.mp hsel
    obtain ⟨hact, hloop⟩ : actionAt i.home i.tdi = State.hold ∧ next i.home i.tms = i.home := by
      simp only [List.mem_cons, List.not_mem_nil, or_false] at hmem
      obtain hi | hi | hi | hi := hmem <;> rw [hi] <;> exact ⟨rfl, rfl⟩
    exact ⟨s, exec_of_hold_loop h hr hact hloop, rfl⟩

/-- Settles O42: idle edges keep the record one by one, and the operations that keep every record are the four that
stay and hold. -/
theorem idleKeepsTheRecord : Obligations.IdleKeepsTheRecord :=
  ⟨fun _ _ _ hs hr h htms => ⟨_, runsTo_afterEdges hs hr, State.afterEdges_record_of_idle h htms, rfl⟩,
    keepsRecord_iff⟩

end Sys2Proof.Machine
end

section
/-! PROOFS. The serial path (41_shift_register_path.md): in which States the stages of a register change, the one bit in
and one bit out of a shift edge, and the pause as a run through States that hold. Both registers obey one law, so it is
proved for a `Path`. -/

namespace Sys2Proof.Machine

/-! ### The committed stage of a path -/

/-- The committed stage of the register of a path (10_state.md R25, R27). -/
def State.committedStage (r : Path) (s : State) : Bits :=
  match r with
  | .dr => s.drHold
  | .ir => s.irHold

/-- The State whose edge updates the register of a path. -/
def updateAt : Path → TapState
  | .dr => .updateDr
  | .ir => .updateIr

/-- Only Update of its own path writes a committed stage (41_shift_register_path.md R150 to R165). -/
theorem actionAt_committedStage_unchanged {r : Path} {q : TapState} (tdi : Bool) (s : State) (hu : q ≠ updateAt r) :
    (actionAt q tdi s).committedStage r = s.committedStage r := by
  cases r with
  | dr =>
    cases q with
    | updateDr => exact absurd rfl hu
    | _ => rfl
  | ir =>
    cases q with
    | updateIr => exact absurd rfl hu
    | _ => rfl

@[simp] theorem State.goTo_committedStage (r : Path) (q : TapState) (s : State) :
    (s.goTo q).committedStage r = s.committedStage r := by
  cases r <;> rfl

@[simp] theorem State.present_committedStage (r : Path) (p : Inputs) (s : State) :
    (s.present p).committedStage r = s.committedStage r := by
  cases r <;> rfl

theorem State.afterEdge_committedStage_unchanged {r : Path} {s : State} (hu : s.state ≠ updateAt r) (p : Inputs) :
    (s.afterEdge p).committedStage r = s.committedStage r := by
  rw [State.afterEdge, State.goTo_committedStage, actionAt_committedStage_unchanged p.tdi _ hu,
    State.present_committedStage]

/-! ### In which phases a stage changes -/

/-- A step either leaves all four stages, or is an active edge with reset deasserted: the reset events and the edges
under reset write no register (70_reset_and_hazards.md R232 to R234). -/
theorem step_keeps_stages_or_eq_afterEdge {s t : State} (h : step s = .next t) :
    (∀ r, t.stage r = s.stage r ∧ t.committedStage r = s.committedStage r) ∨
    ∃ p rest, s.stimulus = .edge p :: rest ∧ s.resetAsserted = false ∧
      t = State.afterEdge { s with stimulus := rest } p := by
  obtain ⟨-, rfl⟩ | ⟨rest, -, rfl⟩ | ⟨rest, -, rfl⟩ | ⟨p, rest, -, -, rfl⟩ | ⟨p, rest, hs, hr, -⟩ := step_cases h
  · exact .inl fun _ => ⟨rfl, rfl⟩
  · exact .inl fun _ => ⟨rfl, rfl⟩
  · exact .inl fun _ => ⟨rfl, rfl⟩
  · exact .inl fun _ => ⟨rfl, rfl⟩
  · exact .inr ⟨p, rest, hs, hr, Host.Outcome.next.inj (h.symm.trans (step_eq_afterEdge hs hr))⟩

/-- A shift stage that a step changes was changed by a Capture or Shift edge of its path. -/
theorem captureAt_or_shiftAt_of_stage_ne {s t : State} (r : Path) (h : step s = .next t)
    (hne : t.stage r ≠ s.stage r) :
    ∃ p rest, s.stimulus = .edge p :: rest ∧ s.resetAsserted = false ∧
      (s.state = captureAt r ∨ s.state = shiftAt r) := by
  obtain hkeeps | ⟨p, rest, hs, hr, rfl⟩ := step_keeps_stages_or_eq_afterEdge h
  · exact absurd (hkeeps r).1 hne
  · refine ⟨p, rest, hs, hr, ?_⟩
    by_contra hq
    obtain ⟨hc, hsh⟩ := not_or.mp hq
    exact hne (State.afterEdge_stage_unchanged (s := { s with stimulus := rest }) hc hsh p)

/-- A committed stage that a step changes was changed by an Update edge of its path. -/
theorem updateAt_of_committedStage_ne {s t : State} (r : Path) (h : step s = .next t)
    (hne : t.committedStage r ≠ s.committedStage r) :
    ∃ p rest, s.stimulus = .edge p :: rest ∧ s.resetAsserted = false ∧ s.state = updateAt r := by
  obtain hkeeps | ⟨p, rest, hs, hr, rfl⟩ := step_keeps_stages_or_eq_afterEdge h
  · exact absurd (hkeeps r).2 hne
  · refine ⟨p, rest, hs, hr, ?_⟩
    by_contra hu
    exact hne (State.afterEdge_committedStage_unchanged (s := { s with stimulus := rest }) hu p)

/-- At a shift edge one bit leaves to `tdo` and one enters from `tdi` (20_memory.md R52; decision D3). -/
theorem State.afterEdge_tdo_cons_stage {r : Path} {s : State} (h : s.state = shiftAt r) (hne : s.stage r ≠ [])
    (p : Inputs) : (s.afterEdge p).tdo :: (s.afterEdge p).stage r = s.stage r ++ [p.tdi] := by
  rw [State.afterEdge_tdo_of_shift h, State.afterEdge_stage_of_shift h, shiftOut_cons_shiftIn p.tdi hne]

theorem step_tdo_cons_stage {s : State} {p : Inputs} {rest : List Event} (r : Path)
    (hs : s.stimulus = .edge p :: rest) (hr : s.resetAsserted = false) (h : s.state = shiftAt r)
    (hne : s.stage r ≠ []) : ∃ t, step s = .next t ∧ t.tdo :: t.stage r = s.stage r ++ [p.tdi] :=
  ⟨_, step_eq_afterEdge hs hr, State.afterEdge_tdo_cons_stage (s := { s with stimulus := rest }) h hne p⟩

/-- Settles O32: the phases in which each stage changes, and the bit in and the bit out, for both paths. -/
theorem registersChangeOnlyInTheirPhases : Obligations.RegistersChangeOnlyInTheirPhases :=
  ⟨fun _ _ h => ⟨captureAt_or_shiftAt_of_stage_ne .ir h, updateAt_of_committedStage_ne .ir h,
      captureAt_or_shiftAt_of_stage_ne .dr h, updateAt_of_committedStage_ne .dr h⟩,
    fun _ _ _ hs hr => ⟨step_tdo_cons_stage .ir hs hr, step_tdo_cons_stage .dr hs hr⟩⟩

/-! ### Runs through States that hold -/

/-- The States whose edge writes a register stage or `tdo`; the edge of every other State holds
(41_shift_register_path.md R150 to R165). -/
def writingStates : List TapState := [.captureDr, .shiftDr, .updateDr, .captureIr, .shiftIr, .updateIr]

theorem actionAt_of_notMem_writingStates {q : TapState} (tdi : Bool) (h : q ∉ writingStates) :
    actionAt q tdi = State.hold := by
  cases q with
  | captureDr | shiftDr | updateDr | captureIr | shiftIr | updateIr => exact absurd (by decide) h
  | testLogicReset | runTestIdle | selectDrScan | exit1Dr | pauseDr | exit2Dr | selectIrScan | exit1Ir | pauseIr
  | exit2Ir => rfl

theorem State.afterEdge_record_of_hold {s : State} (p : Inputs) (h : s.state ∉ writingStates) :
    (s.afterEdge p).record = { s.record with state := next s.state p.tms } := by
  rw [State.afterEdge, actionAt_of_notMem_writingStates p.tdi h]
  rfl

theorem avoids_cons {bad : List TapState} {q : TapState} {p : Inputs} {ps : List Inputs} :
    avoids bad q (p :: ps) = true ↔ q ∉ bad ∧ avoids bad (next q p.tms) ps = true := by
  simp [avoids]

theorem walk_cons (q : TapState) (p : Inputs) (ps : List Inputs) : walk q (p :: ps) = walk (next q p.tms) ps := rfl

/-- A run of edges that meets no writing State changes the State and nothing else of the record. -/
theorem State.afterEdges_record_of_avoids {s : State} {ps : List Inputs} (h : avoids writingStates s.state ps = true) :
    (s.afterEdges ps).record = { s.record with state := walk s.state ps } := by
  induction ps generalizing s with
  | nil => rfl
  | cons p ps ih =>
    obtain ⟨hq, hrest⟩ := avoids_cons.mp h
    rw [State.afterEdges_cons, ih hrest, State.afterEdge_record_of_hold p hq, State.afterEdge_state, walk_cons]

/-! ### The pause -/

/-- The Pause State of a path. -/
def pauseAt : Path → TapState
  | .dr => .pauseDr
  | .ir => .pauseIr

theorem pauseEdges_length (cap : Inputs) (n : Nat) : (pauseEdges cap n).length = n + 2 := by
  simp [pauseEdges]

theorem pauseEdges_succ (cap : Inputs) (n : Nat) :
    pauseEdges cap (n + 1) = pins cap false false :: pauseEdges cap n := rfl

theorem next_exit1At_false (r : Path) : next (exit1At r) false = pauseAt r := by
  cases r <;> rfl

theorem next_pauseAt_false (r : Path) : next (pauseAt r) false = pauseAt r := by
  cases r <;> rfl

theorem exit1At_notMem_writingStates (r : Path) : exit1At r ∉ writingStates := by
  cases r <;> decide

theorem pauseAt_notMem_writingStates (r : Path) : pauseAt r ∉ writingStates := by
  cases r <;> decide

/-- From the Pause State, any number of pause edges stay there, and the last two go over Exit2 to Shift. -/
theorem walk_pauseAt_pauseEdges (r : Path) (cap : Inputs) (n : Nat) :
    walk (pauseAt r) (pauseEdges cap n) = shiftAt r := by
  induction n with
  | zero => cases r <;> rfl
  | succ n ih => rwa [pauseEdges_succ, walk_cons, pins, next_pauseAt_false]

theorem avoids_pauseAt_pauseEdges (r : Path) (cap : Inputs) (n : Nat) :
    avoids writingStates (pauseAt r) (pauseEdges cap n) = true := by
  induction n with
  | zero => cases r <;> rfl
  | succ n ih =>
    rw [pauseEdges_succ, avoids_cons, pins, next_pauseAt_false]
    exact ⟨pauseAt_notMem_writingStates r, ih⟩

/-- A pause of one or more edges from Exit1 meets only States that hold, and ends in Shift. -/
theorem State.afterEdges_pauseEdges {r : Path} {s : State} (cap : Inputs) {n : Nat} (hn : 1 ≤ n)
    (h : s.state = exit1At r) : (s.afterEdges (pauseEdges cap n)).record = { s.record with state := shiftAt r } := by
  obtain ⟨m, rfl⟩ := Nat.exists_eq_add_of_le' hn
  have hwalk : walk s.state (pauseEdges cap (m + 1)) = shiftAt r := by
    rw [h, pauseEdges_succ, walk_cons, pins, next_exit1At_false, walk_pauseAt_pauseEdges]
  have hholds : avoids writingStates s.state (pauseEdges cap (m + 1)) = true := by
    rw [h, pauseEdges_succ, avoids_cons, pins, next_exit1At_false]
    exact ⟨exit1At_notMem_writingStates r, avoids_pauseAt_pauseEdges r cap m⟩
  rw [State.afterEdges_record_of_avoids hholds, hwalk]

/-- Settles O43: the run of a pause, from the Exit1 State of the path it is on. -/
theorem pauseIsTransparent : Obligations.PauseIsTransparent := by
  intro n cap s rest hn hs hr hexit
  refine ⟨_, pauseEdges_length cap n ▸ runsTo_afterEdges hs hr, rfl, ?_⟩
  rw [State.record_with_stimulus]
  obtain h | h := hexit
  · rw [State.afterEdges_pauseEdges (r := .dr) cap hn h, if_pos h, shiftAt]
  · rw [State.afterEdges_pauseEdges (r := .ir) cap hn h, if_neg (by simp [h]), shiftAt]

end Sys2Proof.Machine
end

section
/-! PROOFS. The step of the Controller (42_controller_step.md): the ControlSignals table, one active edge component by
component, its agreement with the signal-driven Controller, and what `tms` decides. -/

namespace Sys2Proof.Machine

/-! ### The ControlSignals table -/

/-- What holds of the 16 rows of a table one by one holds of every State. -/
theorem forall_state {P : TapState → Prop} (h : ∀ q ∈ allStates, P q) (q : TapState) : P q :=
  h q (mem_allStates q)

/-- A column of a table is the list of the States in which it is up. -/
theorem mem_iff_of_filter_allStates {f : TapState → Bool} {qs : List TapState} (h : allStates.filter f = qs)
    (q : TapState) : f q = true ↔ q ∈ qs := by
  rw [← h, List.mem_filter]
  exact (and_iff_right (mem_allStates q)).symm

/-- Settles O16: each printed column is the table filtered by its signal. -/
theorem signalColumns : Obligations.SignalColumns := fun q =>
  ⟨mem_iff_of_filter_allStates (f := fun q => (sig q).selectIR) rfl q,
    mem_iff_of_filter_allStates (f := fun q => (sig q).selectDR) rfl q,
    mem_iff_of_filter_allStates (f := fun q => (sig q).capture) rfl q,
    mem_iff_of_filter_allStates (f := fun q => (sig q).shift) rfl q,
    mem_iff_of_filter_allStates (f := fun q => (sig q).exit1) rfl q,
    mem_iff_of_filter_allStates (f := fun q => (sig q).update) rfl q,
    mem_iff_of_filter_allStates (f := fun q => (sig q).pause) rfl q⟩

/-- The five phase signals (42_controller_step.md R182 (b)). -/
def Signals.phases (g : Signals) : List Bool := [g.capture, g.shift, g.exit1, g.update, g.pause]

/-- The select signals name the path the State is on (00_scope.md R14, last column). -/
theorem selectIR_eq_decide_path (q : TapState) : (sig q).selectIR = decide (TapState.path q = some .ir) :=
  forall_state (P := fun q => (sig q).selectIR = decide (TapState.path q = some .ir)) (by decide) q

theorem selectDR_eq_decide_path (q : TapState) : (sig q).selectDR = decide (TapState.path q = some .dr) :=
  forall_state (P := fun q => (sig q).selectDR = decide (TapState.path q = some .dr)) (by decide) q

theorem path_eq_none_iff (q : TapState) : TapState.path q = none ↔ q = .testLogicReset ∨ q = .runTestIdle :=
  forall_state (P := fun q => TapState.path q = none ↔ q = .testLogicReset ∨ q = .runTestIdle) (by decide) q

/-- A State is on one path at most. -/
theorem not_selectIR_and_selectDR (q : TapState) : ((sig q).selectIR && (sig q).selectDR) = false := by
  rw [selectIR_eq_decide_path, selectDR_eq_decide_path]
  cases TapState.path q with
  | none => rfl
  | some r => cases r <;> rfl

/-- No select signal is up exactly where the State is on neither path. -/
theorem select_or_eq_false_iff (q : TapState) :
    ((sig q).selectIR || (sig q).selectDR) = false ↔ q = .testLogicReset ∨ q = .runTestIdle := by
  rw [selectIR_eq_decide_path, selectDR_eq_decide_path, ← path_eq_none_iff]
  cases TapState.path q with
  | none => decide
  | some r => cases r <;> decide

/-- The active register is the one whose select signal is up (10_state.md R32). -/
theorem State.activeRegister_eq_ir_iff (s : State) : s.activeRegister = some .ir ↔ (sig s.state).selectIR = true := by
  rw [selectIR_eq_decide_path, decide_eq_true_iff, State.activeRegister]

theorem State.activeRegister_eq_dr_iff (s : State) : s.activeRegister = some .dr ↔ (sig s.state).selectDR = true := by
  rw [selectDR_eq_decide_path, decide_eq_true_iff, State.activeRegister]

theorem count_phases_le_one (q : TapState) : (sig q).phases.count true ≤ 1 :=
  forall_state (P := fun q => (sig q).phases.count true ≤ 1) (by decide) q

theorem select_of_mem_phases (q : TapState) :
    true ∈ (sig q).phases → ((sig q).selectIR || (sig q).selectDR) = true :=
  forall_state (P := fun q => true ∈ (sig q).phases → ((sig q).selectIR || (sig q).selectDR) = true) (by decide) q

/-- The pairs of States with the same row (42_controller_step.md R182 (d)). -/
def sharedRows : List (List TapState) :=
  [[.selectDrScan, .exit2Dr], [.selectIrScan, .exit2Ir], [.testLogicReset, .runTestIdle]]

theorem sig_eq_iff (q q' : TapState) : sig q = sig q' ↔ q = q' ∨ ∃ pair ∈ sharedRows, q ∈ pair ∧ q' ∈ pair :=
  forall_state
    (P := fun q => ∀ q' ∈ allStates, sig q = sig q' ↔ q = q' ∨ ∃ pair ∈ sharedRows, q ∈ pair ∧ q' ∈ pair)
    (by decide) q q' (mem_allStates q')

/-- A register is shifting exactly in the Shift State of its path (10_state.md R31, decision D19). -/
theorem State.shifting_iff (r : Path) (s : State) : s.shifting r = true ↔ s.state = shiftAt r := by
  cases r with
  | dr =>
    exact forall_state (P := fun q => ((sig q).shift && (sig q).selectDR) = true ↔ q = .shiftDr) (by decide) s.state
  | ir =>
    exact forall_state (P := fun q => ((sig q).shift && (sig q).selectIR) = true ↔ q = .shiftIr) (by decide) s.state

/-- Settles O17: the selects by the path of the State, the phases and the shared rows by the table. -/
theorem signalProperties : Obligations.SignalProperties :=
  ⟨fun q => ⟨not_selectIR_and_selectDR q, select_or_eq_false_iff q, count_phases_le_one q, select_of_mem_phases q⟩,
    sig_eq_iff,
    fun s => ⟨s.shifting_iff .ir, s.shifting_iff .dr, s.activeRegister_eq_ir_iff, s.activeRegister_eq_dr_iff⟩⟩

/-! ### The step is total -/

theorem step_goesOn (s : State) : goesOn s := by
  cases hs : s.stimulus with
  | nil => exact ⟨_, step_idle hs⟩
  | cons e rest =>
    cases e with
    | assertReset => exact ⟨_, step_assertReset hs⟩
    | deassertReset => exact ⟨_, step_deassertReset hs⟩
    | edge p =>
      cases hr : s.resetAsserted with
      | true => exact ⟨_, step_edge_under_reset hs hr⟩
      | false => exact ⟨_, step_eq_afterEdge hs hr⟩

/-- Settles O27: every move goes on, and `step` is a function. -/
theorem stepAlwaysGoesOn : Obligations.StepAlwaysGoesOn := fun s =>
  ⟨step_goesOn s, fun _ _ h h' => Host.Outcome.next.inj (h.symm.trans h')⟩

/-! ### One active edge, component by component -/

theorem shiftIn_eq_drop (tdi : Bool) (sh : Bits) : shiftIn tdi sh = sh.drop 1 ++ [tdi] := by
  rw [shiftIn, List.drop_one]

theorem shiftOut_eq_getD (sh : Bits) : shiftOut sh = sh.getD 0 false := by
  cases sh with
  | nil => rfl
  | cons a l => rfl

/-- The shift stage of a path after an edge (42_controller_step.md R183). -/
theorem State.afterEdge_stage (r : Path) (s : State) (p : Inputs) :
    (s.afterEdge p).stage r =
      if s.state = captureAt r then (s.present p).captureOperand r
      else if s.state = shiftAt r then (s.stage r).drop 1 ++ [p.tdi] else s.stage r := by
  split_ifs with hc hsh
  · rw [State.afterEdge, State.goTo_stage, hc]
    cases r <;> rfl
  · rw [State.afterEdge_stage_of_shift hsh, shiftIn_eq_drop]
  · exact State.afterEdge_stage_unchanged hc hsh p

/-- The committed stage of a path after an edge. -/
theorem State.afterEdge_committedStage (r : Path) (s : State) (p : Inputs) :
    (s.afterEdge p).committedStage r = if s.state = updateAt r then s.stage r else s.committedStage r := by
  split_ifs with hu
  · rw [State.afterEdge, State.goTo_committedStage, hu]
    cases r <;> rfl
  · exact State.afterEdge_committedStage_unchanged hu p

/-- `tdo` after an edge. -/
theorem State.afterEdge_tdo (s : State) (p : Inputs) :
    (s.afterEdge p).tdo =
      if s.state = .shiftDr then s.drSh.getD 0 false
      else if s.state = .shiftIr then s.irSh.getD 0 false else s.tdo := by
  split_ifs with hdr hir
  · exact (State.afterEdge_tdo_of_shift (r := .dr) hdr p).trans (shiftOut_eq_getD s.drSh)
  · exact (State.afterEdge_tdo_of_shift (r := .ir) hir p).trans (shiftOut_eq_getD s.irSh)
  · exact State.afterEdge_tdo_unchanged (fun r => ne_shiftAt_of_both (r := .dr) hdr hir r) p

theorem actionAt_inp (q : TapState) (tdi : Bool) (s : State) : (actionAt q tdi s).inp = s.inp := by
  cases q <;> rfl

/-- The levels on the ports after an edge are those it presented. -/
@[simp] theorem State.afterEdge_inp (s : State) (p : Inputs) : (s.afterEdge p).inp = p :=
  actionAt_inp s.state p.tdi (s.present p)

/-- Settles O28: one lemma per component of the state the edge leads to. -/
theorem stepIsThePseudocode : Obligations.StepIsThePseudocode := by
  intro s p rest hs hr
  refine ⟨{ s.afterEdge p with stimulus := rest }, ?_, s.afterEdge_state p, s.afterEdge_stage .dr p,
    s.afterEdge_committedStage .dr p, s.afterEdge_stage .ir p, s.afterEdge_committedStage .ir p, s.afterEdge_tdo p,
    (s.afterEdge_resetAsserted p).trans hr, s.afterEdge_inp p, rfl⟩
  rw [step_eq_afterEdge hs hr, State.afterEdge_with_stimulus]

/-! ### The signal-driven Controller -/

/-- What `onEdge` does on the signals of a State, with the bit it returns put on `tdo`, is the register action of that
State: with no phase signal of capture, shift or update up it holds, else the select signal picks the register. -/
theorem onEdge_sig_eq_actionAt (q : TapState) (p : Inputs) (s : State) :
    { (onEdge (sig q) p (s.present p)).1 with tdo := (onEdge (sig q) p (s.present p)).2.getD s.tdo } =
      actionAt q p.tdi (s.present p) := by
  cases q with
  | testLogicReset | runTestIdle => rfl
  | selectDrScan | exit1Dr | pauseDr | exit2Dr => rfl
  | selectIrScan | exit1Ir | pauseIr | exit2Ir => rfl
  | captureDr | captureIr => rfl
  | shiftDr | shiftIr => rfl
  | updateDr | updateIr => rfl

/-- One step of the Controller is one active edge (42_controller_step.md R183, steps (1) to (4)). -/
theorem controllerStep_present (p : Inputs) (s : State) : controllerStep p (s.present p) = s.afterEdge p :=
  congrArg (State.goTo (next s.state p.tms)) (onEdge_sig_eq_actionAt s.state p s)

/-- Settles O29: the edge with its levels on the ports is the step of the Controller. -/
theorem stepIsTheController : Obligations.StepIsTheController := fun s p rest hs hr =>
  (step_eq_afterEdge hs hr).trans
    (congrArg Host.Outcome.next (controllerStep_present p { s with stimulus := rest }).symm)

/-! ### What `tms` decides -/

/-- The action of an edge reads no `tms`, so another `tms` gives the same record up to the State. -/
theorem State.afterEdge_record_with_tms (s : State) (p : Inputs) (b : Bool) :
    (s.afterEdge { p with tms := b }).record = { (s.afterEdge p).record with state := next s.state b } :=
  congrArg (fun g : Record => { g with state := next s.state b })
    (actionAt_record_of_agree (q := s.state) (tdi := p.tdi) (p := { p with tms := b }) (p' := p) s (fun _ => rfl)
      (fun _ => rfl) (fun _ => rfl))

/-- Settles O35: both edges complete, with the same action of the same State. -/
theorem tmsDecidesOnlyTheSuccessor : Obligations.TmsDecidesOnlyTheSuccessor := by
  intro s p rest b hs hr
  exact ⟨_, _, step_eq_afterEdge hs hr,
    step_eq_afterEdge (s := { s with stimulus := .edge { p with tms := b } :: rest }) rfl hr,
    State.afterEdge_record_with_tms { s with stimulus := rest } p b⟩

end Sys2Proof.Machine
end

section
/-! PROOFS. Exceptions (60_exceptions.md): the machine without a move of the environment, and the software call beside
the active edge. -/

namespace Sys2Proof.Machine

/-! ### No move of the environment -/

/-- A state with no move to come is a fixed point of every run (60_exceptions.md R213). -/
theorem runsTo_idle {s : State} (h : s.stimulus = []) (k : Nat) : runsTo k s s := by
  induction k with
  | zero => exact runsTo_zero.mpr rfl
  | succ k ih => exact runsTo_succ.mpr ⟨s, step_idle h, ih⟩

/-- Settles O41: the first step answers the same state, and so does every further one. -/
theorem noStimulusNoChange : Obligations.NoStimulusNoChange := fun _ k h => runsTo_idle h k

/-! ### The software call -/

theorem isBit_eq_true_iff {n : Nat} : isBit n = true ↔ n ≤ 1 := decide_eq_true_iff

theorem isBit_eq_false_iff {n : Nat} : isBit n = false ↔ 1 < n := by
  rw [← Bool.not_eq_true, isBit_eq_true_iff, Nat.not_le]

section
variable {m d : Nat} (ir dr : Bits) (s : State)

/-- `tms` is checked first: nothing is asked of `tdi` (60_exceptions.md R201). -/
theorem State.call_of_tms_malformed (hm : 1 < m) : s.call m d ir dr = .fault (.invalidSignal .tms) := by
  simp [State.call, isBit_eq_false_iff.mpr hm]

theorem State.call_of_tdi_malformed (hm : m ≤ 1) (hd : 1 < d) :
    s.call m d ir dr = .fault (.invalidSignal .tdi) := by
  simp [State.call, isBit_eq_true_iff.mpr hm, isBit_eq_false_iff.mpr hd]

theorem State.call_of_bits (hm : m ≤ 1) (hd : d ≤ 1) :
    s.call m d ir dr = s.edge { tms := m == 1, tdi := d == 1, irCapIn := ir, drCapIn := dr } := by
  simp [State.call, isBit_eq_true_iff.mpr hm, isBit_eq_true_iff.mpr hd]

end

/-- An edge put before the other moves is the machine's next step, with reset asserted or not. -/
theorem step_edge_cons (s : State) (p : Inputs) : step { s with stimulus := .edge p :: s.stimulus } = s.edge p := rfl

/-- Settles O49: each clause is one outcome of the checks; a call with two bits goes on because every step does. -/
theorem callChecksItsArguments : Obligations.CallChecksItsArguments := by
  intro m d ir dr s
  refine ⟨s.call_of_tms_malformed ir dr, s.call_of_tdi_malformed ir dr, fun hm hd => ?_⟩
  obtain ⟨t, ht⟩ := step_goesOn
    { s with stimulus := .edge { tms := m == 1, tdi := d == 1, irCapIn := ir, drCapIn := dr } :: s.stimulus }
  exact ⟨t, (s.call_of_bits ir dr hm hd).trans ((step_edge_cons s _).symm.trans ht), ht⟩

end Sys2Proof.Machine
end

section
/-! PROOFS. Reset and hazards (70_reset_and_hazards.md): the reset events and the edges under reset, why a shift stage
that was never captured is not seen, what the `tms = 1` reset writes, and the zero-bit scan. Both registers obey one
law, so it is proved for a `Path`. -/

namespace Sys2Proof.Machine

/-! ### A shift stage not in use -/

/-- The shift stage of a path holds a captured value that may still be shifted or committed. -/
def stageInUse : Path → TapState → Bool
  | .dr => drStageInUse
  | .ir => irStageInUse

/-- A shift stage comes into use by the edge of its Capture State only (40_tap_state_machine.md R141). -/
theorem captureAt_or_stageInUse_of_next {r : Path} {q : TapState} {tms : Bool}
    (h : stageInUse r (next q tms) = true) : q = captureAt r ∨ stageInUse r q = true := by
  refine forall_transition
    (P := fun e => stageInUse r (next e.1 e.2) = true → e.1 = captureAt r ∨ stageInUse r e.1 = true) ?_ q tms h
  cases r <;> decide

theorem stageInUse_shiftAt (r : Path) : stageInUse r (shiftAt r) = true := by
  cases r <;> decide

theorem stageInUse_updateAt (r : Path) : stageInUse r (updateAt r) = true := by
  cases r <;> decide

theorem not_stageInUse_testLogicReset (r : Path) : ¬ stageInUse r .testLogicReset = true := by
  cases r <;> decide

theorem forall_path {P : Path → Prop} : (∀ r, P r) ↔ P .ir ∧ P .dr :=
  ⟨fun h => ⟨h .ir, h .dr⟩, fun h r => by
    cases r with
    | dr => exact h.2
    | ir => exact h.1⟩

/-- Agreement, with the two registers as the stages of the two paths. -/
theorem State.agreesWith_iff {s t : State} :
    s.agreesWith t ↔
      s.state = t.state ∧ (∀ r, s.committedStage r = t.committedStage r) ∧ s.tdo = t.tdo ∧
        s.resetAsserted = t.resetAsserted ∧ s.stimulus = t.stimulus ∧
        ∀ r, stageInUse r s.state = true → s.stage r = t.stage r := by
  rw [State.agreesWith, forall_path, forall_path, and_assoc]
  rfl

theorem State.agreesWith_outputs {s t : State} (h : s.agreesWith t) : s.outputs = t.outputs := by
  obtain ⟨hstate, hir, hdr, htdo, -⟩ := h
  rw [State.outputs, State.outputs, hstate, hir, hdr, htdo]

/-! ### The moves of the environment keep the agreement -/

/-- What a Capture State reads is the level the edge presents, whatever the state. -/
theorem State.present_captureOperand (r : Path) (p : Inputs) (s t : State) :
    (s.present p).captureOperand r = (t.present p).captureOperand r := by
  cases r <;> rfl

theorem State.with_stimulus_agreesWith {s t : State} (h : s.agreesWith t) (es : List Event) :
    State.agreesWith { s with stimulus := es } { t with stimulus := es } := by
  obtain ⟨hstate, hir, hdr, htdo, hreset, -, huse⟩ := h
  exact ⟨hstate, hir, hdr, htdo, hreset, rfl, huse⟩

theorem State.present_agreesWith {s t : State} (h : s.agreesWith t) (p : Inputs) :
    (s.present p).agreesWith (t.present p) := h

theorem State.deassertReset_agreesWith {s t : State} (h : s.agreesWith t) :
    s.deassertReset.agreesWith t.deassertReset := by
  obtain ⟨hstate, hir, hdr, htdo, -, hstim, huse⟩ := h
  exact ⟨hstate, hir, hdr, htdo, rfl, hstim, huse⟩

/-- AssertReset takes both blocks to TestLogicReset, where no shift stage is in use. -/
theorem State.assertReset_agreesWith {s t : State} (h : s.agreesWith t) :
    s.assertReset.agreesWith t.assertReset := by
  obtain ⟨-, hhold, -, -, hstim, -⟩ := State.agreesWith_iff.mp h
  exact State.agreesWith_iff.mpr
    ⟨rfl, hhold, rfl, rfl, hstim, fun r huse => absurd huse (not_stageInUse_testLogicReset r)⟩

theorem actionAt_stimulus (q : TapState) (tdi : Bool) (s : State) : (actionAt q tdi s).stimulus = s.stimulus := by
  cases q <;> rfl

@[simp] theorem State.afterEdge_stimulus (s : State) (p : Inputs) : (s.afterEdge p).stimulus = s.stimulus :=
  actionAt_stimulus s.state p.tdi (s.present p)

section
variable {s t : State} (p : Inputs)

/-- An Update edge commits a stage that is in use. -/
theorem State.afterEdge_committedStage_of_agreesWith (h : s.agreesWith t) (r : Path) :
    (s.afterEdge p).committedStage r = (t.afterEdge p).committedStage r := by
  obtain ⟨hstate, hhold, -, -, -, huse⟩ := State.agreesWith_iff.mp h
  rw [State.afterEdge_committedStage, State.afterEdge_committedStage, ← hstate]
  split_ifs with hu
  · exact huse r (hu ▸ stageInUse_updateAt r)
  · exact hhold r

/-- A Shift edge drives `tdo` from a stage that is in use. -/
theorem State.afterEdge_tdo_of_agreesWith (h : s.agreesWith t) : (s.afterEdge p).tdo = (t.afterEdge p).tdo := by
  obtain ⟨hstate, -, htdo, -, -, huse⟩ := State.agreesWith_iff.mp h
  by_cases hsh : ∃ r, s.state = shiftAt r
  · obtain ⟨r, hr⟩ := hsh
    rw [State.afterEdge_tdo_of_shift hr, State.afterEdge_tdo_of_shift (hstate ▸ hr),
      huse r (hr ▸ stageInUse_shiftAt r)]
  · have hne : ∀ r, s.state ≠ shiftAt r := not_exists.mp hsh
    rw [State.afterEdge_tdo_unchanged hne, State.afterEdge_tdo_unchanged (hstate ▸ hne), htdo]

/-- A stage in use after an edge was just captured, from the same input, or was in use before. -/
theorem State.afterEdge_stage_of_agreesWith (h : s.agreesWith t) {r : Path}
    (hnext : stageInUse r (next s.state p.tms) = true) : (s.afterEdge p).stage r = (t.afterEdge p).stage r := by
  obtain ⟨hstate, -, -, -, -, huse⟩ := State.agreesWith_iff.mp h
  rw [State.afterEdge_stage, State.afterEdge_stage, ← hstate]
  obtain hcap | hin := captureAt_or_stageInUse_of_next hnext
  · rw [if_pos hcap, if_pos hcap, State.present_captureOperand r p s t]
  · rw [huse r hin, State.present_captureOperand r p s t]

theorem State.afterEdge_agreesWith (h : s.agreesWith t) : (s.afterEdge p).agreesWith (t.afterEdge p) := by
  obtain ⟨hstate, -, -, hreset, hstim, -⟩ := State.agreesWith_iff.mp h
  refine State.agreesWith_iff.mpr
    ⟨?_, State.afterEdge_committedStage_of_agreesWith p h, State.afterEdge_tdo_of_agreesWith p h, ?_, ?_,
      fun _ => State.afterEdge_stage_of_agreesWith p h⟩
  · rw [State.afterEdge_state, State.afterEdge_state, hstate]
  · rw [State.afterEdge_resetAsserted, State.afterEdge_resetAsserted, hreset]
  · rw [State.afterEdge_stimulus, State.afterEdge_stimulus, hstim]

end

theorem step_agreesWith {s t : State} (h : s.agreesWith t) :
    ∃ s' t', step s = .next s' ∧ step t = .next t' ∧ s'.agreesWith t' := by
  obtain ⟨-, -, -, hreset, hstim, -⟩ := State.agreesWith_iff.mp h
  cases hs : s.stimulus with
  | nil => exact ⟨_, _, step_idle hs, step_idle (hstim ▸ hs), h⟩
  | cons e rest =>
    have hrest := State.with_stimulus_agreesWith h rest
    have ht : t.stimulus = e :: rest := hstim ▸ hs
    cases e with
    | assertReset => exact ⟨_, _, step_assertReset hs, step_assertReset ht, State.assertReset_agreesWith hrest⟩
    | deassertReset =>
      exact ⟨_, _, step_deassertReset hs, step_deassertReset ht, State.deassertReset_agreesWith hrest⟩
    | edge p =>
      cases hr : s.resetAsserted with
      | true =>
        exact ⟨_, _, step_edge_under_reset hs hr, step_edge_under_reset ht (hreset ▸ hr),
          State.present_agreesWith hrest p⟩
      | false =>
        exact ⟨_, _, step_eq_afterEdge hs hr, step_eq_afterEdge ht (hreset ▸ hr),
          State.afterEdge_agreesWith p hrest⟩

/-- Settles O50: agreement covers all that is on the output ports, and every move keeps it. -/
theorem unusedShiftStagesStayUnseen : Obligations.UnusedShiftStagesStayUnseen := fun _ _ h =>
  ⟨State.agreesWith_outputs h, step_agreesWith h⟩

/-- Agreement along a run. -/
theorem exists_runsTo_agreesWith {s t : State} (h : s.agreesWith t) (k : Nat) :
    ∃ s' t', runsTo k s s' ∧ runsTo k t t' ∧ s'.agreesWith t' := by
  induction k generalizing s t with
  | zero => exact ⟨s, t, runsTo_zero.mpr rfl, runsTo_zero.mpr rfl, h⟩
  | succ k ih =>
    obtain ⟨s₁, t₁, hs, ht, h₁⟩ := step_agreesWith h
    obtain ⟨s', t', hs', ht', h'⟩ := ih h₁
    exact ⟨s', t', runsTo_succ.mpr ⟨s₁, hs, hs'⟩, runsTo_succ.mpr ⟨t₁, ht, ht'⟩, h'⟩

/-- In TestLogicReset no shift stage is in use, so whatever is drawn for them makes no difference. -/
theorem State.powerUp_agreesWith (a a' b c c' d : Bits) (p : Inputs) (es : List Event) :
    (State.powerUp a b c d p es).agreesWith (State.powerUp a' b c' d p es) :=
  State.agreesWith_iff.mpr
    ⟨rfl, fun r => by cases r <;> rfl, rfl, rfl, rfl, fun r huse => absurd huse (not_stageInUse_testLogicReset r)⟩

/-- Settles O40: the two blocks agree at power-up, hence after every number of moves. -/
theorem powerUpShiftStagesNeverSeen : Obligations.PowerUpShiftStagesNeverSeen := by
  intro a a' b c c' d p es k
  obtain ⟨t, t', ht, ht', h⟩ := exists_runsTo_agreesWith (State.powerUp_agreesWith a a' b c c' d p es) k
  exact ⟨t, t', ht, ht', State.agreesWith_outputs h⟩

/-! ### The reset events and the edges under reset -/

/-- Settles O36: one step per event; the second of two assertions forces what the first one forced already. -/
theorem resetEvents : Obligations.ResetEvents :=
  ⟨fun _ _ hs => step_assertReset hs, fun _ _ hs => step_deassertReset hs, fun s rest hs =>
    have hfirst := step_assertReset hs
    have hsecond := step_assertReset (s := State.assertReset { s with stimulus := .assertReset :: rest }) rfl
    ⟨_, _, runsTo_succ.mpr ⟨_, hfirst, runsTo_zero.mpr rfl⟩,
      runsTo_succ.mpr ⟨_, hfirst, runsTo_succ.mpr ⟨_, hsecond, runsTo_zero.mpr rfl⟩⟩, rfl, rfl⟩⟩

theorem State.resetHeld_iff {s : State} :
    s.resetHeld = true ↔ (s.resetAsserted = true → s.state = .testLogicReset ∧ s.tdo = false) := by
  rw [State.resetHeld]
  cases s.resetAsserted <;> simp [Config.tdoReset]

/-- Settles O9, by the cases of one step: AssertReset establishes the condition, an edge under reset keeps State and
`tdo`, and after the other moves reset is deasserted. -/
theorem stepKeepsResetHeld : Obligations.StepKeepsResetHeld := by
  intro s t h hstep
  obtain ⟨-, rfl⟩ | ⟨rest, -, rfl⟩ | ⟨rest, -, rfl⟩ | ⟨p, rest, -, -, rfl⟩ | ⟨p, rest, hs, hr, -⟩ :=
    step_cases hstep
  · exact h
  · exact State.resetHeld_iff.mpr fun _ => ⟨State.assertReset_state _, State.assertReset_tdo _⟩
  · exact State.resetHeld_of_not_resetAsserted (State.deassertReset_resetAsserted _)
  · exact State.resetHeld_iff.mpr (State.resetHeld_iff.mp h)
  · obtain rfl := Host.Outcome.next.inj ((step_eq_afterEdge hs hr).symm.trans hstep)
    exact State.resetHeld_of_not_resetAsserted ((State.afterEdge_resetAsserted _ p).trans hr)

/-- Edges under reset are taken off the stimulus, and nothing else happens to the record or to reset
(70_reset_and_hazards.md R233). -/
theorem exists_runsTo_edges_under_reset {ps : List Inputs} {s : State} {rest : List Event}
    (hs : s.stimulus = edges ps ++ rest) (hr : s.resetAsserted = true) :
    ∃ t, runsTo ps.length s t ∧ t.record = s.record ∧ t.resetAsserted = true ∧ t.stimulus = rest := by
  induction ps generalizing s with
  | nil => exact ⟨s, runsTo_zero.mpr rfl, rfl, hr, hs⟩
  | cons p ps ih =>
    have hstep := step_edge_under_reset (rest := edges ps ++ rest) hs hr
    obtain ⟨t, hrun, hrecord, hreset, hstim⟩ :=
      ih (s := State.present p { s with stimulus := edges ps ++ rest }) rfl hr
    exact ⟨t, runsTo_succ.mpr ⟨_, hstep, hrun⟩, hrecord, hreset, hstim⟩

/-- Settles O37: the record is kept, and its State is the one held under reset. -/
theorem edgesUnderResetDoNothing : Obligations.EdgesUnderResetDoNothing := by
  intro ps s rest hs hr hheld
  obtain ⟨t, hrun, hrecord, hreset, hstim⟩ := exists_runsTo_edges_under_reset hs hr
  obtain ⟨hstate, -⟩ := State.resetHeld_iff.mp hheld hr
  exact ⟨t, hrun, hrecord, (congrArg Record.state hrecord).trans hstate, hreset, hstim⟩

/-! ### What `tms = 1` edges write -/

/-- With `tms = 1` no edge enters a State that captures or shifts. -/
theorem next_true_ne_captureAt (q : TapState) (r : Path) : next q true ≠ captureAt r := by
  refine forall_state (P := fun q => next q true ≠ captureAt r) ?_ q
  cases r <;> decide

theorem next_true_ne_shiftAt (q : TapState) (r : Path) : next q true ≠ shiftAt r := by
  refine forall_state (P := fun q => next q true ≠ shiftAt r) ?_ q
  cases r <;> decide

theorem State.afterEdge_ne_captureAt {p : Inputs} (s : State) (hp : p.tms = true) (r : Path) :
    (s.afterEdge p).state ≠ captureAt r := by
  rw [State.afterEdge_state, hp]
  exact next_true_ne_captureAt s.state r

theorem State.afterEdge_ne_shiftAt {p : Inputs} (s : State) (hp : p.tms = true) (r : Path) :
    (s.afterEdge p).state ≠ shiftAt r := by
  rw [State.afterEdge_state, hp]
  exact next_true_ne_shiftAt s.state r

section
variable {s : State} {p : Inputs} {ps : List Inputs} {r : Path}

/-- Outside Capture and Shift, `tms = 1` edges leave a shift stage as it is. -/
theorem State.afterEdges_stage_of_tms_true (hps : ∀ p ∈ ps, p.tms = true) (hc : s.state ≠ captureAt r)
    (hsh : s.state ≠ shiftAt r) : (s.afterEdges ps).stage r = s.stage r := by
  induction ps generalizing s with
  | nil => rfl
  | cons p ps ih =>
    obtain ⟨hp, hrest⟩ := List.forall_mem_cons.mp hps
    rw [State.afterEdges_cons, ih hrest (s.afterEdge_ne_captureAt hp r) (s.afterEdge_ne_shiftAt hp r),
      State.afterEdge_stage_unchanged hc hsh]

theorem State.afterEdges_tdo_of_tms_true (hps : ∀ p ∈ ps, p.tms = true) (hsh : ∀ r, s.state ≠ shiftAt r) :
    (s.afterEdges ps).tdo = s.tdo := by
  induction ps generalizing s with
  | nil => rfl
  | cons p ps ih =>
    obtain ⟨hp, hrest⟩ := List.forall_mem_cons.mp hps
    rw [State.afterEdges_cons, ih hrest (s.afterEdge_ne_shiftAt hp), State.afterEdge_tdo_unchanged hsh]

/-- Of `tms = 1` edges only the first one can write a shift stage. -/
theorem State.afterEdges_cons_stage_of_tms_true (hps : ∀ p' ∈ p :: ps, p'.tms = true) :
    (s.afterEdges (p :: ps)).stage r = (s.afterEdge p).stage r := by
  obtain ⟨hp, hrest⟩ := List.forall_mem_cons.mp hps
  exact State.afterEdges_stage_of_tms_true hrest (s.afterEdge_ne_captureAt hp r) (s.afterEdge_ne_shiftAt hp r)

theorem State.afterEdges_cons_tdo_of_tms_true (hps : ∀ p' ∈ p :: ps, p'.tms = true) :
    (s.afterEdges (p :: ps)).tdo = (s.afterEdge p).tdo := by
  obtain ⟨hp, hrest⟩ := List.forall_mem_cons.mp hps
  exact State.afterEdges_tdo_of_tms_true hrest (s.afterEdge_ne_shiftAt hp)

/-- Edges that do not meet Update leave the committed stage as it is. -/
theorem State.afterEdges_committedStage_of_avoids (h : avoids [updateAt r] s.state ps = true) :
    (s.afterEdges ps).committedStage r = s.committedStage r := by
  induction ps generalizing s with
  | nil => rfl
  | cons p ps ih =>
    obtain ⟨hu, hrest⟩ := avoids_singleton_cons.mp h
    rw [State.afterEdges_cons, ih hrest, State.afterEdge_committedStage_unchanged hu]

/-- A committed stage equal to its shift stage stays so when an edge neither captures nor shifts: an update writes the
value it holds already. -/
theorem State.afterEdge_committedStage_eq_stage (h : s.committedStage r = s.stage r) (hc : s.state ≠ captureAt r)
    (hsh : s.state ≠ shiftAt r) (p : Inputs) : (s.afterEdge p).committedStage r = (s.afterEdge p).stage r := by
  rw [State.afterEdge_committedStage, State.afterEdge_stage_unchanged hc hsh, h, ite_self]

theorem State.afterEdges_committedStage_eq_stage (h : s.committedStage r = s.stage r) (hc : s.state ≠ captureAt r)
    (hsh : s.state ≠ shiftAt r) (hps : ∀ p ∈ ps, p.tms = true) :
    (s.afterEdges ps).committedStage r = (s.afterEdges ps).stage r := by
  induction ps generalizing s with
  | nil => exact h
  | cons p ps ih =>
    obtain ⟨hp, hrest⟩ := List.forall_mem_cons.mp hps
    exact ih (State.afterEdge_committedStage_eq_stage h hc hsh p) (s.afterEdge_ne_captureAt hp r)
      (s.afterEdge_ne_shiftAt hp r) hrest

theorem updateAt_ne_captureAt (r : Path) : updateAt r ≠ captureAt r := by
  cases r <;> decide

theorem updateAt_ne_shiftAt (r : Path) : updateAt r ≠ shiftAt r := by
  cases r <;> decide

/-- The Update edge copies the shift stage and leaves it. -/
theorem State.afterEdge_committedStage_eq_stage_of_update (h : s.state = updateAt r) (p : Inputs) :
    (s.afterEdge p).committedStage r = (s.afterEdge p).stage r := by
  rw [State.afterEdge_committedStage, if_pos h,
    State.afterEdge_stage_unchanged (h ▸ updateAt_ne_captureAt r) (h ▸ updateAt_ne_shiftAt r)]

/-- `tms = 1` edges that meet Update end with the committed stage equal to the shift stage (70_reset_and_hazards.md
R244). -/
theorem State.afterEdges_committedStage_of_not_avoids (hps : ∀ p ∈ ps, p.tms = true)
    (h : ¬ avoids [updateAt r] s.state ps = true) :
    (s.afterEdges ps).committedStage r = (s.afterEdges ps).stage r := by
  induction ps generalizing s with
  | nil => exact absurd rfl h
  | cons p ps ih =>
    obtain ⟨hp, hrest⟩ := List.forall_mem_cons.mp hps
    rw [State.afterEdges_cons]
    by_cases hu : s.state = updateAt r
    · exact State.afterEdges_committedStage_eq_stage (State.afterEdge_committedStage_eq_stage_of_update hu p)
        (s.afterEdge_ne_captureAt hp r) (s.afterEdge_ne_shiftAt hp r) hrest
    · exact ih hrest fun hav => h (avoids_singleton_cons.mpr ⟨hu, hav⟩)

end

/-- A walk of `tms = 1` edges avoids a State if none of the States on the trajectory is it. -/
theorem avoids_singleton_iff_of_tms_true {ps : List Inputs} {q' : TapState} (q : TapState)
    (hps : ∀ p ∈ ps, p.tms = true) : avoids [q'] q ps = true ↔ ∀ k < ps.length, tmsOne^[k] q ≠ q' := by
  induction ps generalizing q with
  | nil => simp [avoids]
  | cons p ps ih =>
    obtain ⟨hp, hrest⟩ := List.forall_mem_cons.mp hps
    rw [avoids_singleton_cons, hp, ih _ hrest, List.length_cons, Nat.forall_lt_succ_left']
    rfl

/-- The States from which the trajectory of five `tms = 1` edges has an edge of Update (70_reset_and_hazards.md R244,
40_tap_state_machine.md R138). -/
def updatesOnTmsReset : Path → List TapState
  | .dr => [.captureDr, .shiftDr, .exit1Dr, .pauseDr, .exit2Dr, .updateDr]
  | .ir => [.captureIr, .shiftIr, .exit1Ir, .pauseIr, .exit2Ir, .updateIr]

theorem tmsReset_avoids_updateAt_iff (r : Path) (q : TapState) :
    (∀ k < 5, tmsOne^[k] q ≠ updateAt r) ↔ q ∉ updatesOnTmsReset r := by
  refine forall_state (P := fun q => (∀ k < 5, tmsOne^[k] q ≠ updateAt r) ↔ q ∉ updatesOnTmsReset r) ?_ q
  cases r <;> decide

theorem State.afterEdges_committedStage_of_tmsReset {s : State} {ps : List Inputs} (r : Path)
    (hps : ∀ p ∈ ps, p.tms = true) (hlen : ps.length = 5) :
    (s.afterEdges ps).committedStage r =
      if s.state ∈ updatesOnTmsReset r then (s.afterEdges ps).stage r else s.committedStage r := by
  have hav : avoids [updateAt r] s.state ps = true ↔ s.state ∉ updatesOnTmsReset r := by
    rw [avoids_singleton_iff_of_tms_true s.state hps, hlen, tmsReset_avoids_updateAt_iff]
  split_ifs with hmem
  · exact State.afterEdges_committedStage_of_not_avoids hps fun h => hav.mp h hmem
  · exact State.afterEdges_committedStage_of_avoids (hav.mpr hmem)

/-- Settles O39: the first edge writes the shift stages and `tdo`, and the Update State on the trajectory commits. -/
theorem tmsResetSideEffects : Obligations.TmsResetSideEffects := by
  intro s a b c d e rest hs hr htms
  have hstate : (s.afterEdges [a, b, c, d, e]).state = .testLogicReset := by
    rw [State.afterEdges_state, walk_of_tms_true s.state htms]
    exact iterate_tmsOne_eq_reset_iff.mpr (edgesToReset_le_five s.state)
  have hstage (r : Path) :=
    (State.afterEdges_cons_stage_of_tms_true (s := s) (r := r) htms).trans (s.afterEdge_stage r a)
  have hcommitted (r : Path) := State.afterEdges_committedStage_of_tmsReset (s := s) r htms rfl
  have htdo := (State.afterEdges_cons_tdo_of_tms_true (s := s) htms).trans (s.afterEdge_tdo a)
  exact ⟨_, runsTo_afterEdges hs hr, hstate, hstage .dr, hcommitted .dr, hstage .ir, hcommitted .ir, htdo⟩

/-! ### The zero-bit scan -/

/-- The Select State of a path. -/
def selectAt : Path → TapState
  | .dr => .selectDrScan
  | .ir => .selectIrScan

theorem State.afterEdge_record_of_capture {r : Path} {s : State} (h : s.state = captureAt r) (p : Inputs) :
    (s.afterEdge p).record =
      s.record.scanned r (next (captureAt r) p.tms) ((s.present p).captureOperand r) s.tdo := by
  rw [State.afterEdge, h]
  cases r <;> rfl

theorem State.afterEdge_record_of_update {r : Path} {s : State} (h : s.state = updateAt r) (p : Inputs) :
    (s.afterEdge p).record = { s.record.committed r with state := next (updateAt r) p.tms } := by
  rw [State.afterEdge, h]
  cases r <;> rfl

theorem next_selectAt_false (r : Path) : next (selectAt r) false = captureAt r := by
  cases r <;> rfl

theorem next_captureAt_true (r : Path) : next (captureAt r) true = exit1At r := by
  cases r <;> rfl

theorem next_exit1At_true (r : Path) : next (exit1At r) true = updateAt r := by
  cases r <;> rfl

theorem selectAt_notMem_writingStates (r : Path) : selectAt r ∉ writingStates := by
  cases r <;> decide

theorem Record.scanned_with_state (r : Path) (q q' : TapState) (c : Bits) (o : Bool) (g : Record) :
    { g.scanned r q c o with state := q' } = g.scanned r q' c o := by
  cases r <;> rfl

theorem Record.with_state_scanned (r : Path) (q q' : TapState) (c : Bits) (o : Bool) (g : Record) :
    Record.scanned r q c o { g with state := q' } = g.scanned r q c o := by
  cases r <;> rfl

/-- Select, Capture, Exit1 with `tms` = 0, 1, 1: the capture is the only write on the way to Update. -/
theorem State.afterEdges_selectToUpdate {r : Path} {s : State} {a b c : Inputs} (h : s.state = selectAt r)
    (ha : a.tms = false) (hb : b.tms = true) (hc : c.tms = true) :
    (s.afterEdges [a, b, c]).record = s.record.scanned r (updateAt r) ((s.present b).captureOperand r) s.tdo := by
  have hselect : (s.afterEdge a).record = { s.record with state := captureAt r } := by
    rw [State.afterEdge_record_of_hold a (h ▸ selectAt_notMem_writingStates r), h, ha, next_selectAt_false]
  have hcapture : ((s.afterEdge a).afterEdge b).record =
      s.record.scanned r (exit1At r) ((s.present b).captureOperand r) s.tdo := by
    have htdo : (s.afterEdge a).tdo = s.tdo := congrArg Record.tdo hselect
    rw [State.afterEdge_record_of_capture (congrArg Record.state hselect), hselect, Record.with_state_scanned, hb,
      next_captureAt_true, htdo, State.present_captureOperand r b _ s]
  obtain ⟨hexit, -⟩ := State.fields_of_scanned hcapture
  calc (s.afterEdges [a, b, c]).record
      = { ((s.afterEdge a).afterEdge b).record with state := next ((s.afterEdge a).afterEdge b).state c.tms } :=
        State.afterEdge_record_of_hold c (hexit ▸ exit1At_notMem_writingStates r)
    _ = s.record.scanned r (updateAt r) ((s.present b).captureOperand r) s.tdo := by
        rw [hcapture, hexit, hc, next_exit1At_true, Record.scanned_with_state]

/-- The zero-bit scan of either register: the captured value in both stages. -/
theorem State.afterEdges_zeroBitScan {r : Path} {s : State} {a b c : Inputs} (d : Inputs) (h : s.state = selectAt r)
    (ha : a.tms = false) (hb : b.tms = true) (hc : c.tms = true) :
    (s.afterEdges [a, b, c, d]).record =
      { (s.record.scanned r (updateAt r) ((s.present b).captureOperand r) s.tdo).committed r with
        state := next (updateAt r) d.tms } := by
  have hrecord := State.afterEdges_selectToUpdate h ha hb hc
  obtain ⟨hupdate, -⟩ := State.fields_of_scanned hrecord
  rw [← hrecord]
  exact State.afterEdge_record_of_update hupdate d

/-- Settles O48: the zero-bit scan of each path, from its Select State. -/
theorem zeroBitScanCommitsCapture : Obligations.ZeroBitScanCommitsCapture := by
  intro s a b c d rest hs hr ha hb hc
  have hrun := runsTo_afterEdges hs hr
  exact ⟨fun h => ⟨_, hrun, rfl, State.afterEdges_zeroBitScan (r := .dr) d h ha hb hc⟩,
    fun h => ⟨_, hrun, rfl, State.afterEdges_zeroBitScan (r := .ir) d h ha hb hc⟩⟩

end Sys2Proof.Machine
end
